-- ==== Sys2Proof/Word.lean ====
section
/-! DEFINITION. The words of the machine: the widths the spec fixes (`GPRLEN = 32`, 00_scope.md R5, R7; a byte is
8 bits, 20_memory.md R50; a register number is a five-bit field, 10_state.md R21). -/

namespace Sys2Proof

/-- A 32-bit value: a general register, `hi`, `lo`, `pc`, `npc`, an address or an instruction word (R5, R7, R80). -/
abbrev Word := BitVec 32

/-- A byte of memory (R50). -/
abbrev Byte := BitVec 8

/-- The number of a general register: every five-bit value names one of the 32 (R21). -/
abbrev RegIdx := BitVec 5

end Sys2Proof
end

