-- ==== Sys2Proof/Config.lean ====
section
/-! DEFINITION. The parameters of the machine (00_scope.md R5) as plain data, and the free values: the values the rules
leave open, as constants without a body. A parameter of kind "argument" is a field of `Params`; log entry 1 says why
`Params` stands in the state, and log entries 10 to 13 say how a free value is drawn. -/

namespace Sys2Proof

/-- `BYTE_ORDER` (20_memory.md R53). -/
inductive ByteOrder where
  | little
  | big
  deriving DecidableEq, Repr

/-- The kind of a memory access: the argument `kind` of `MEM_VALID` and of the address faults (R64, R301). -/
inductive AccessKind where
  | fetch
  | load
  | store
  deriving DecidableEq, Repr

/-- `DELAY_SLOT_BRANCH`: what a control transfer does when it stands in a delay slot (44_branch.md R217). -/
inductive DelaySlotPolicy where
  | fault
  | execute
  deriving DecidableEq, Repr

/-- `BITFIELD_RANGE`: what EXT and INS do outside their legal ranges (47_misc.md R276, R277). -/
inductive BitfieldPolicy where
  | fault
  | draw
  deriving DecidableEq, Repr

/-- `DIV_BY_ZERO`: what DIV and DIVU leave in `hi` and `lo` when the divisor is 0 (42_alu_muldiv.md R169, R175):
a draw, or two values given with the machine. -/
inductive DivByZeroPolicy where
  | draw
  | values (hi lo : Word)
  deriving DecidableEq, Repr

/-- `SC_POLICY`: when SC succeeds (43_load_store.md R208). -/
inductive ScPolicy where
  | guarded
  | strict
  | always
  | draw
  deriving DecidableEq, Repr

/-- A range of byte addresses `base` to `base + size - 1` and the kinds of access its bytes accept: one entry of
`MEM_VALID` (20_memory.md R64; log entry 6). -/
structure Region where
  base  : Nat
  size  : Nat
  fetch : Bool
  load  : Bool
  store : Bool
  deriving DecidableEq, Repr

/-- The parameters of kind "argument" of R5 that a step reads. The start parameters (`ENTRY_PC`, `INIT_GPR`, `INIT_HI`,
`INIT_LO`, `INIT_MEM`) are the arguments of `State.start`; `ENV` is the state's `replies` (log entry 15). -/
structure Params where
  byteOrder       : ByteOrder
  delaySlotBranch : DelaySlotPolicy
  bitfieldRange   : BitfieldPolicy
  divByZero       : DivByZeroPolicy
  scPolicy        : ScPolicy
  /-- `MEM_VALID`: a byte is valid for a kind when some region that covers it permits the kind. -/
  memMap          : List Region
  /-- `SYSCALL_NUM_REG` (46_syscall.md R246). -/
  syscallNumReg   : RegIdx
  /-- `SYSCALL_ARG_REGS[0]`. -/
  syscallArg0Reg  : RegIdx
  /-- `SYSCALL_ARG_REGS[1]`. -/
  syscallArg1Reg  : RegIdx
  /-- `SYSCALL_RET_REG`. -/
  syscallRetReg   : RegIdx
  deriving DecidableEq, Repr

namespace Config

/-- The value left in `hi` by a division by zero under the draw policy, for the `k`-th draw (R169, R175; log entry 10).
No body: nothing can be proved about which value it is. -/
opaque divByZeroHi : Nat → Word

/-- The value left in `lo` by a division by zero under the draw policy, for the `k`-th draw (log entry 10). -/
opaque divByZeroLo : Nat → Word

/-- The value an EXT or INS outside its legal range writes under `BITFIELD_RANGE = draw` (R276, R277; log entry 11). -/
opaque bitfieldDraw : Nat → Word

/-- Whether an SC whose outcome the policy leaves open succeeds (43_load_store.md R208; log entry 12). -/
opaque scDraw : Nat → Bool

end Config

end Sys2Proof
end

