-- ==== Sys2Proof/Machine/Bytes.lean ====
section
/-! DEFINITION. Words as bytes: the lanes of a word, least significant first (43_load_store.md R195), and the order in which
lanes stand at rising addresses (20_memory.md R53). -/

namespace Sys2Proof

/-- The four byte lanes of a word, `r.byte[0]` (least significant) first (R195). -/
def toLanes (w : Word) : List Byte :=
  [w.extractLsb' 0 8, w.extractLsb' 8 8, w.extractLsb' 16 8, w.extractLsb' 24 8]

/-- The value of some lanes, least significant first, with zeros above: one lane is a byte, two a halfword, four a word. -/
def ofLanes : List Byte → Word
  | [] => 0
  | b :: bs => b.setWidth 32 ||| (ofLanes bs <<< 8)

/-- Lanes to bytes at rising addresses, and back: `little` puts the least significant lane at the lowest address, `big` at
the highest (R53). -/
def arrange (order : ByteOrder) (bs : List Byte) : List Byte :=
  match order with
  | .little => bs
  | .big => bs.reverse

end Sys2Proof
end

