-- ==== Sys2Proof/Machine/Defaults.lean ====
section
/-! DEFINITION. The defaults of the parameters (00_scope.md R5), and the values this model names for the start parameters
to which the spec gives no default (log entries 2, 3 and 6). -/

namespace Sys2Proof.Machine

/-- The defaults of R5. `MEM_VALID` has none: the empty map, under which every access faults (log entry 6). -/
def defaultParams : Params where
  byteOrder := .little
  delaySlotBranch := .fault
  bitfieldRange := .fault
  divByZero := .draw
  scPolicy := .guarded
  memMap := []
  syscallNumReg := 2
  syscallArg0Reg := 4
  syscallArg1Reg := 5
  syscallRetReg := 2

/-- DESIGN CHOICE (log entry 2): `ENTRY_PC` has no default; the value of 95_test_vectors.md's conventions. -/
def resetEntryPc : Word := 0x00001000

/-- DESIGN CHOICE (log entry 3): `INIT_GPR` has no default, and R340 forbids zero; the values with which the traces of
95_test_vectors.md section 3 were run, `0xDEAD0000 + r`. -/
def resetGpr : Vector Word 32 := Vector.ofFn fun r => if r = 0 then 0 else 0xDEAD0000 + BitVec.ofNat 32 r.val

/-- DESIGN CHOICE (log entry 3): `INIT_HI` of the same traces. -/
def resetHi : Word := 0xDEADFFFF

/-- DESIGN CHOICE (log entry 3): `INIT_LO` of the same traces. -/
def resetLo : Word := 0xDEADEEEE

/-- DESIGN CHOICE (log entry 4): `ll_addr` is unspecified at reset and never read while `ll_valid` is false (10_state.md R39). -/
def resetLlAddr : Word := 0

end Sys2Proof.Machine
end

