-- ==== Sys2Proof/Machine/State.lean ====
section
/-! DEFINITION. The state of the machine as plain data (10_state.md R20), the faults (60_exceptions.md R301), the refusals,
and the start state (R39, 70_reset_and_hazards.md R340). -/

namespace Sys2Proof.Machine

/-- The closed list of faults (R301), with the information each records. A fault ends the run; the state is the one
before the faulting instruction (R300). All are safe: where the machine went on instead, claims would only become
unprovable (92_eei_decisions.md D17). -/
inductive Fault where
  /-- Raised by instruction fetch, LH, LHU, LW, LL, SH, SW and SC at a misaligned address. Safe. -/
  | addressError (kind : AccessKind) (addr : Word)
  /-- Raised by instruction fetch, every load, every store and SC when a byte of the access is not valid for its kind;
  `addr` is the address the instruction computed. Safe. -/
  | accessFault (kind : AccessKind) (addr : Word)
  /-- Raised by decode when the word matches no row (30_encoding.md R110). Safe. -/
  | reservedInstruction (word : Word)
  /-- Raised by a control transfer in a delay slot when `DELAY_SLOT_BRANCH = fault` (44_branch.md R217). Safe. -/
  | delaySlotBranch (pc : Word)
  /-- Raised by TEQ on equal operands (47_misc.md R273). Safe. -/
  | trap (code : BitVec 10)
  /-- Raised by EXT and INS outside their legal ranges when `BITFIELD_RANGE = fault` (R276, R277). Safe. -/
  | badBitfield (word : Word)
  /-- Raised by SYSCALL when the number is none of the 40 (46_syscall.md R251). Safe. -/
  | unknownSyscall (number : Word)
  /-- Raised by SYSCALL for a listed service other than HALT to which the environment gives no effect (R248). Safe. -/
  | syscallRefused (number : Word)
  deriving DecidableEq, Repr

/-- Where the model declines to answer. -/
inductive Refusal where
  /-- Raised by `exec` for an instruction without a meaning: none is left. Safe. -/
  | notModelled (mnemonic : String)
  /-- Raised by a step of a run that has ended (93_implementation_defined.md U30: stuck, no next state). Safe. -/
  | runEnded
  /-- Raised by a load, an LWL, an LWR or a fetch that reads a valid byte which neither `INIT_MEM` nor a store has given
  a value (U16: refuse, never zero; log entry 5). Safe. -/
  | undefinedByte (kind : AccessKind) (addr : Word)
  deriving DecidableEq, Repr

/-- The three outcomes of a run (00_scope.md R14). -/
inductive RunOutcome where
  | running
  | fault (f : Fault)
  | halted (code : Word)
  deriving DecidableEq, Repr

/-- The memory: the listed bytes of the 2^32 (20_memory.md R50), by rising address. An address that is not listed has no
defined value (R340; log entry 5). -/
abbrev Memory := List Host.Cell

/-- The environment's own state `e` (46_syscall.md R248, R253, R256): its input items with the current one first, the
output buffer, the committed values, and whatever else its services keep (log entry 16). -/
structure Environment where
  inputs    : List (List Byte)
  output    : List Byte
  committed : List Byte
  other     : List Byte
  deriving DecidableEq, Repr

/-- What a system call hands to the environment: its number and the two argument words (R245, R246). -/
structure SyscallRequest where
  number : Word
  arg0   : Word
  arg1   : Word
  deriving DecidableEq, Repr

/-- What the oracle `ENV` answers to one system call (R248): it refuses, or it gives, for a number and two arguments, a result
word or none, the bytes it writes to memory, and its state afterwards. -/
inductive EnvReply where
  | refuse
  | answer (request : SyscallRequest) (ret : Option Word) (writes : List (Word × Byte)) (after : Environment)
  deriving DecidableEq, Repr

/-- The whole state (R20). -/
structure State where
  /-- The general registers (R21); register 0 is read and written through `State.gpr` and `State.setGpr` (R23). -/
  regs    : Vector Word 32
  /-- `hi` (R26). -/
  hi      : Word
  /-- `lo` (R26). -/
  lo      : Word
  /-- The address of the instruction being executed (R28). -/
  pc      : Word
  /-- The address of the instruction that executes next (R29). -/
  npc     : Word
  /-- True when the instruction about to execute stands in a delay slot (R30). -/
  ds      : Bool
  /-- The load-linked reservation is held (R34). -/
  llValid : Bool
  /-- The address of the reservation (R34). -/
  llAddr  : Word
  /-- The memory (R50). -/
  mem     : Memory
  /-- The outcome (R14). -/
  outcome : RunOutcome
  /-- The environment state `e` (R248). -/
  env     : Environment
  /-- What `ENV` will answer, the next system call's reply first; empty when the model has no `ENV` (R248; log entry 15). -/
  replies : List EnvReply
  /-- The model's own: how many free values have been drawn (log entry 13). -/
  draws   : Nat
  /-- The parameters of the machine (R5, R38): no step changes them (log entry 1). -/
  par     : Params
  deriving DecidableEq, Repr

/-- The start parameters (R39, R340, R341). -/
structure StartArgs where
  par     : Params
  /-- `ENTRY_PC`. -/
  entryPc : Word
  /-- `INIT_GPR`; the entry of register 0 is not used. -/
  gpr     : Vector Word 32
  /-- `INIT_HI`. -/
  hi      : Word
  /-- `INIT_LO`. -/
  lo      : Word
  /-- `ll_addr`, which R39 leaves unspecified. -/
  llAddr  : Word
  /-- `INIT_MEM`. -/
  mem     : Memory
  /-- The initial environment state. -/
  env     : Environment
  /-- `ENV`. -/
  replies : List EnvReply
  deriving DecidableEq, Repr

/-- The state when the machine starts (R39, R340). -/
def State.start (a : StartArgs) : State where
  regs := a.gpr.set 0 0
  hi := a.hi
  lo := a.lo
  pc := a.entryPc
  npc := a.entryPc + 4
  ds := false
  llValid := false
  llAddr := a.llAddr
  mem := a.mem
  outcome := .running
  env := a.env
  replies := a.replies
  draws := 0
  par := a.par

/-- The start state with the defaults of R5, and with the values this model names where R5 gives none: no memory content, no
valid address, no environment (log entries 2 to 6 and 15). -/
def State.reset : State :=
  State.start
    { par := defaultParams
      entryPc := resetEntryPc
      gpr := resetGpr
      hi := resetHi
      lo := resetLo
      llAddr := resetLlAddr
      mem := []
      env := { inputs := [], output := [], committed := [], other := [] }
      replies := [] }

end Sys2Proof.Machine
end

