-- ==== Sys2Proof/Machine/Memory.lean ====
section
/-! DEFINITION. The memory as data (20_memory.md R50, R63): reading and writing one byte, its canonical form, and the
addresses that exist for each kind of access (R64). -/

namespace Sys2Proof.Machine

/-- The byte listed at an address; none where no byte is listed: an unlisted address has no defined value (70_reset_and_hazards.md
R340; log entry 5). -/
def Memory.read : Memory → Nat → Option Byte
  | [], _ => none
  | (a', b) :: rest, a => if a = a' then some b else Memory.read rest a

/-- The memory with a byte written at an address, kept in canonical form. -/
def Memory.write : Memory → Nat → Byte → Memory
  | [], a, b => [(a, b)]
  | (a', b') :: rest, a, b =>
    if a < a' then (a, b) :: (a', b') :: rest
    else if a = a' then (a, b) :: rest
    else (a', b') :: Memory.write rest a b

/-- The memory with bytes written at `start`, `start + 1`, … modulo 2^32. -/
def Memory.writeBytes (m : Memory) (start : Word) : List Byte → Memory
  | [] => m
  | b :: bs => Memory.writeBytes (Memory.write m start.toNat b) (start + 1) bs

/-- The bytes of a system call's reply written in their order (46_syscall.md R248). -/
def Memory.writeCells (m : Memory) : List (Word × Byte) → Memory
  | [] => m
  | (a, b) :: rest => Memory.writeCells (Memory.write m a.toNat b) rest

/-- Addresses rise strictly from `least` and stay below 2^32. -/
def Memory.risesFrom (least : Nat) : Memory → Bool
  | [] => true
  | (a, _) :: rest => decide (least ≤ a) && decide (a < 2 ^ 32) && Memory.risesFrom (a + 1) rest

/-- The canonical form: strictly rising addresses of the 2^32. An unlisted address reads as no value, so that no entry can
equal what it reads as. -/
def Memory.wf (m : Memory) : Bool := Memory.risesFrom 0 m

/-! ## `MEM_VALID` -/

/-- A region permits a kind of access. -/
def Region.permits (r : Region) : AccessKind → Bool
  | .fetch => r.fetch
  | .load => r.load
  | .store => r.store

/-- A region holds an address. -/
def Region.covers (r : Region) (a : Word) : Bool := decide (r.base ≤ a.toNat) && decide (a.toNat < r.base + r.size)

/-- `MEM_VALID(addr, kind)` (20_memory.md R64). -/
def Params.valid (p : Params) (kind : AccessKind) (a : Word) : Bool :=
  p.memMap.any fun r => Region.covers r a && Region.permits r kind

/-- Two regions share an address. -/
def Region.overlaps (r q : Region) : Bool := decide (max r.base q.base < min (r.base + r.size) (q.base + q.size))

/-- The requirement of R69 on the parameter: no byte is valid for both `fetch` and `store`. -/
def Params.disjoint (p : Params) : Bool :=
  p.memMap.all fun r => p.memMap.all fun q => !(r.fetch && q.store && Region.overlaps r q)

end Sys2Proof.Machine
end

