-- ==== Sys2Proof/Machine/Ops.lean ====
section
/-! DEFINITION. The named operations over the registers, the program counters, memory and the outcome, which every meaning is
built from. -/

namespace Sys2Proof.Machine

/-- The result of an operation: a value, a fault or a refusal. -/
abbrev Res (α : Type) := Host.Outcome α Fault Refusal

/-- One operation after another: the first fault or refusal is the result (60_exceptions.md R304). -/
def andThen {α β : Type} (x : Res α) (k : α → Res β) : Res β :=
  match x with
  | .next a => k a
  | .fault f => .fault f
  | .refused r => .refused r

/-! ## Faults (R11, R300) -/

/-- `raise F(info)` (00_scope.md R11): the instruction ends with the fault and changes nothing. The machine has no vector, no
saved register, no handler and no return from one (60_exceptions.md R302, R315, R316). -/
def raise {α : Type} (f : Fault) : Res α := .fault f

/-- The state a fault leaves: the one before the faulting instruction, with the outcome `fault(F, info)` (R300). -/
def State.takeFault (f : Fault) (s : State) : State := { s with outcome := .fault f }

/-- The state after a step that gave `r` in the state `s`, in the terms of R14: a fault is taken. R14 has no outcome for a step
that the model refuses: DESIGN CHOICE (log entry 22), it has no next state, and the run stands still at `s`, its outcome as it
was; `faultFree` does not hold of such a run. -/
def State.settle (s : State) (r : Res State) : State :=
  match r with
  | .next t => t
  | .fault f => s.takeFault f
  | .refused _ => s

/-- The run ends with `halted(code)`; no register, no byte and neither program counter changes (46_syscall.md R252). -/
def State.halt (code : Word) (s : State) : State := { s with outcome := .halted code }

/-! ## Registers (R9, R23, R26) -/

/-- `x[r]`; `x[0]` reads as 0 (R9, R23). -/
def State.gpr (s : State) (r : RegIdx) : Word := if r = 0#5 then 0#32 else s.regs[r.toNat]

/-- `x[r] <- v`; a write to `x[0]` is discarded (R9, R23). -/
def State.setGpr (s : State) (r : RegIdx) (v : Word) : State :=
  if r = 0#5 then s else { s with regs := s.regs.set r.toNat v }

/-- `hi <- v`. -/
def State.setHi (s : State) (v : Word) : State := { s with hi := v }

/-- `lo <- v`. -/
def State.setLo (s : State) (v : Word) : State := { s with lo := v }

/-- `(hi, lo) = v` with a 64-bit `v` (R15). -/
def State.setHiLo (s : State) (v : BitVec 64) : State := (s.setHi (v.extractLsb' 32 32)).setLo (v.extractLsb' 0 32)

/-- `(hi, lo)` as the 64-bit value `hi || lo` (R15). -/
def State.hiLo (s : State) : BitVec 64 := s.hi ++ s.lo

/-! ## Program counters (R12) -/

/-- `advance`. -/
def State.advance (s : State) : State := { s with pc := s.npc, npc := s.npc + 4, ds := false }

/-- `branch_to(t)`. -/
def State.branchTo (s : State) (t : Word) : State := { s with pc := s.npc, npc := t, ds := true }

/-- `fall_through`. -/
def State.fallThrough (s : State) : State := { s with pc := s.npc, npc := s.npc + 4, ds := true }

/-- The end of an instruction that writes one general register: the write, then `advance`. -/
def retire (r : RegIdx) (v : Word) (s : State) : Res State := .next (s.setGpr r v).advance

/-- The check of a control transfer in a delay slot (44_branch.md R217, step (4) of 00_scope.md R13). -/
def slotCheck (s : State) (k : Res State) : Res State :=
  if s.ds = true ∧ s.par.delaySlotBranch = .fault then raise (.delaySlotBranch s.pc) else k

/-! ## The reservation (10_state.md R34) -/

/-- `ll_valid <- true; ll_addr <- a`. -/
def State.reserve (s : State) (a : Word) : State := { s with llValid := true, llAddr := a }

/-- `ll_valid <- false`. -/
def State.clearReservation (s : State) : State := { s with llValid := false }

/-- The address of the aligned word that holds an address (R195). -/
def alignedWord (a : Word) : Word := a &&& 0xFFFFFFFC

/-- Some of the `n` bytes from `start` lies in the aligned word at `ll_addr` (20_memory.md R57 (4)). -/
def State.touchesReservation (s : State) (start : Word) (n : Nat) : Bool :=
  (List.range n).any fun i => alignedWord (start + BitVec.ofNat 32 i) == alignedWord s.llAddr

/-! ## Memory access (20_memory.md R56 to R61) -/

/-- Step (1) of R56 and R57 for an access of `n` bytes. -/
def alignCheck (kind : AccessKind) (addr : Word) (n : Nat) : Res Unit :=
  if addr.toNat % n = 0 then .next () else raise (.addressError kind addr)

/-- The `n` bytes from `start` are valid for a kind of access. -/
def State.validRange (s : State) (kind : AccessKind) (start : Word) (n : Nat) : Bool :=
  (List.range n).all fun i => Params.valid s.par kind (start + BitVec.ofNat 32 i)

/-- Step (2) of R56 and R57 for the `n` bytes from `start`; the fault records the address the instruction computed (R301). -/
def accessCheck (s : State) (kind : AccessKind) (addr start : Word) (n : Nat) : Res Unit :=
  if s.validRange kind start n = true then .next () else raise (.accessFault kind addr)

/-- The `n` bytes at `start`, `start + 1`, …; a byte without a value is refused (93_implementation_defined.md U16; log entry 5). -/
def readBytes (m : Memory) (kind : AccessKind) (start : Word) : Nat → Res (List Byte)
  | 0 => .next []
  | n + 1 =>
    match Memory.read m start.toNat with
    | none => .refused (.undefinedByte kind start)
    | some b => andThen (readBytes m kind (start + 1) n) fun bs => .next (b :: bs)

/-- Steps (2) and (3) of R56 for the `n` bytes from `start`: their lanes, least significant first. -/
def loadLanes (s : State) (kind : AccessKind) (addr start : Word) (n : Nat) : Res (List Byte) :=
  andThen (accessCheck s kind addr start n) fun _ =>
    andThen (readBytes s.mem kind start n) fun bs => .next (arrange s.par.byteOrder bs)

/-- `MemRead(addr, n)` (R10, R56), as a word with zeros above the `8n` bits. -/
def memRead (s : State) (kind : AccessKind) (addr : Word) (n : Nat) : Res Word :=
  andThen (alignCheck kind addr n) fun _ =>
    andThen (loadLanes s kind addr addr n) fun lanes => .next (ofLanes lanes)

/-- Bytes stored from `start` on, and the reservation cleared if one lies in the reserved word: steps (3) and (4) of R57. -/
def State.storeBytes (s : State) (start : Word) (bs : List Byte) : State :=
  { s with
    mem := Memory.writeBytes s.mem start bs
    llValid := s.llValid && !s.touchesReservation start bs.length }

/-- Steps (2) to (4) of R57 for some lanes, least significant first, stored from `start` on. -/
def storeLanes (s : State) (addr start : Word) (lanes : List Byte) : Res State :=
  andThen (accessCheck s .store addr start lanes.length) fun _ =>
    .next (s.storeBytes start (arrange s.par.byteOrder lanes))

/-- `MemWrite(addr, n, v)` (R10, R57) of the low `8n` bits of a word. -/
def memWrite (s : State) (addr : Word) (n : Nat) (v : Word) : Res State :=
  andThen (alignCheck .store addr n) fun _ => storeLanes s addr addr ((toLanes v).take n)

/-! ## Free values (log entry 13) -/

/-- The draw counter advances past a value drawn. -/
def State.drawn (s : State) : State := { s with draws := s.draws + 1 }

/-! ## The environment (46_syscall.md R248) -/

/-- `n`, `a0` and `a1` of a system call (R245). -/
def State.request (s : State) : SyscallRequest where
  number := s.gpr s.par.syscallNumReg
  arg0 := s.gpr s.par.syscallArg0Reg
  arg1 := s.gpr s.par.syscallArg1Reg

/-- The writes of a reply stay within the bytes valid for `store` (R248, R257). -/
def legalWrites (s : State) (writes : List (Word × Byte)) : Bool :=
  writes.all fun c => Params.valid s.par .store c.1

/-- `x[SYSCALL_RET_REG] <- ret` if the service returns a word. -/
def State.setReturn (s : State) (ret : Option Word) : State :=
  match ret with
  | some v => s.setGpr s.par.syscallRetReg v
  | none => s

/-- `mem <- mem'; e <- e'`, and the reply is used up. -/
def State.served (s : State) (writes : List (Word × Byte)) (after : Environment) : State :=
  { s with mem := Memory.writeCells s.mem writes, env := after, replies := s.replies.tail }

end Sys2Proof.Machine
end

