-- ==== Sys2Proof/Machine/Operands.lean ====
section
/-! DEFINITION. The operand forms: immediates, addresses, targets, shift amounts, and the byte lanes that the unaligned loads
and stores move (30_encoding.md R90 to R95). -/

namespace Sys2Proof.Machine

/-- `sext_32(imm)` (00_scope.md R8). -/
def sext16 (imm : BitVec 16) : Word := imm.signExtend 32

/-- `zext_32(imm)` (R8). -/
def zext16 (imm : BitVec 16) : Word := imm.setWidth 32

/-- `imm || 0^16`, the operand of LUI (R90). -/
def upper16 (imm : BitVec 16) : Word := imm ++ 0#16

/-- `sext_32(v[7:0])`. -/
def sextByte (v : Word) : Word := (v.extractLsb' 0 8).signExtend 32

/-- `sext_32(v[15:0])`. -/
def sextHalf (v : Word) : Word := (v.extractLsb' 0 16).signExtend 32

/-- The effective address `x[base] + sext_32(offset)` (R92, 43_load_store.md R186). -/
def effAddr (s : State) (base : RegIdx) (offset : BitVec 16) : Word := s.gpr base + sext16 offset

/-- The branch target `(pc + 4) + sext_32(offset || 00)` (R91, 44_branch.md R216). -/
def branchTarget (pc : Word) (offset : BitVec 16) : Word := pc + 4 + (offset ++ 0#2).signExtend 32

/-- The jump target `(pc + 4)[31:28] || instr_index || 00` (R93). -/
def jumpTarget (pc : Word) (index : BitVec 26) : Word := (pc + 4).extractLsb' 28 4 ++ index ++ 0#2

/-- The link value `pc + 8` (45_jump.md R230). -/
def linkValue (pc : Word) : Word := pc + 8

/-- The register JAL and BAL link to (45_jump.md R236). -/
def linkReg : RegIdx := 31

/-- The amount of a variable shift, `x[rs][4:0]` (R94). -/
def shiftAmount (v : Word) : BitVec 5 := v.extractLsb' 0 5

/-- `rotr(v, n)` (41_alu_shift.md R159). -/
def rotr (v : Word) (n : Nat) : Word := if n = 0 then v else (v >>> n) ||| (v <<< (32 - n))

/-- The field of EXT: `(v >>_l lsb) & (2^(msbd+1) - 1)` (47_misc.md R276). -/
def extractField (v : Word) (msbd lsb : BitVec 5) : Word := (v >>> lsb.toNat) &&& BitVec.ofNat 32 (2 ^ (msbd.toNat + 1) - 1)

/-- The result of INS: bits `msb` to `lsb` of `old` replaced by the low bits of `v` (R277). -/
def insertField (old v : Word) (msb lsb : BitVec 5) : Word :=
  let mask : Word := BitVec.ofNat 32 (2 ^ (msb.toNat - lsb.toNat + 1) - 1) <<< lsb.toNat
  (old &&& ~~~mask) ||| ((v <<< lsb.toNat) &&& mask)

/-- `v[23:16] || v[31:24] || v[7:0] || v[15:8]`, the result of WSBH (R278). -/
def swapBytesInHalves (v : Word) : Word :=
  v.extractLsb' 16 8 ++ v.extractLsb' 24 8 ++ v.extractLsb' 0 8 ++ v.extractLsb' 8 8

/-! ## The unaligned word (43_load_store.md R195 to R206)

The bytes of the aligned word `a` that an access at `addr = a + b` moves are the lower addresses `a` to `a + b` or the upper ones
`a + b` to `a + 3`; which, depends on the byte order and on whether the access is a left or a right one. -/

/-- `b = addr[1:0]`. -/
def byteIndex (addr : Word) : Nat := (addr.extractLsb' 0 2).toNat

/-- The bytes moved: the first address and how many. -/
structure Span where
  start : Word
  count : Nat
  deriving DecidableEq, Repr

/-- The bytes `a` to `a + b`. -/
def lowerSpan (addr : Word) : Span := ⟨alignedWord addr, byteIndex addr + 1⟩

/-- The bytes `a + b` to `a + 3`. -/
def upperSpan (addr : Word) : Span := ⟨addr, 4 - byteIndex addr⟩

/-- The bytes LWL and SWL move (R196, R205). -/
def leftSpan (order : ByteOrder) (addr : Word) : Span :=
  match order with
  | .little => lowerSpan addr
  | .big => upperSpan addr

/-- The bytes LWR and SWR move (R197, R206). -/
def rightSpan (order : ByteOrder) (addr : Word) : Span :=
  match order with
  | .little => upperSpan addr
  | .big => lowerSpan addr

/-- LWL: lanes loaded into the most significant end, the others kept (R196). -/
def mergeLeft (old : Word) (lanes : List Byte) : Word := ofLanes ((toLanes old).take (4 - lanes.length) ++ lanes)

/-- LWR: lanes loaded into the least significant end, the others kept (R197). -/
def mergeRight (old : Word) (lanes : List Byte) : Word := ofLanes (lanes ++ (toLanes old).drop lanes.length)

end Sys2Proof.Machine
end

