-- ==== Sys2Proof/Machine/Flags.lean ====
section
/-! DEFINITION. The conditions. The machine has no flags and no condition codes (10_state.md R32): a comparison writes a general
register, or decides a branch, a conditional move or a trap within the same instruction. -/

namespace Sys2Proof.Machine

/-- The value of a comparison: 1 for true and 0 for false (00_scope.md R15). -/
def boolWord (b : Bool) : Word := if b then 1 else 0

/-- `signed(a) < signed(b)` (40_alu_arith_logic.md R127, R141). -/
def lessSigned (a b : Word) : Bool := decide (a.toInt < b.toInt)

/-- `unsigned(a) < unsigned(b)` (R128, R141). -/
def lessUnsigned (a b : Word) : Bool := decide (a.toNat < b.toNat)

/-- `signed(a) >= 0` (44_branch.md R215, R220). -/
def geZero (a : Word) : Bool := decide (0 ≤ a.toInt)

/-- `signed(a) > 0` (R221). -/
def gtZero (a : Word) : Bool := decide (0 < a.toInt)

/-- `signed(a) <= 0` (R222). -/
def leZero (a : Word) : Bool := decide (a.toInt ≤ 0)

/-- `signed(a) < 0` (R223). -/
def ltZero (a : Word) : Bool := decide (a.toInt < 0)

/-- The success of an SC at `addr` where the policy decides it; none where it is a draw (43_load_store.md R208). -/
def scDecision (s : State) (addr : Word) : Option Bool :=
  let held := s.llValid && s.llAddr == addr
  match s.par.scPolicy with
  | .guarded => if held then some true else none
  | .strict => some held
  | .always => some true
  | .draw => none

end Sys2Proof.Machine
end

