-- ==== Sys2Proof/Machine/Alu.lean ====
section
/-! DEFINITION. Add, subtract, compare, logic, LUI and count (40_alu_arith_logic.md). Every instruction here writes one general
register and advances; none can fault (R120). -/

namespace Sys2Proof.Machine

/-- ADD (R121): no overflow trap (R120). -/
def execAdd (rs rt rd : RegIdx) (s : State) : Res State := retire rd (s.gpr rs + s.gpr rt) s

/-- ADDU (R122). -/
def execAddu (rs rt rd : RegIdx) (s : State) : Res State := retire rd (s.gpr rs + s.gpr rt) s

/-- ADDI (R123). -/
def execAddi (rs rt : RegIdx) (imm : BitVec 16) (s : State) : Res State := retire rt (s.gpr rs + sext16 imm) s

/-- ADDIU (R124). -/
def execAddiu (rs rt : RegIdx) (imm : BitVec 16) (s : State) : Res State := retire rt (s.gpr rs + sext16 imm) s

/-- SUB (R125): no overflow trap (R120). -/
def execSub (rs rt rd : RegIdx) (s : State) : Res State := retire rd (s.gpr rs - s.gpr rt) s

/-- SUBU (R126). -/
def execSubu (rs rt rd : RegIdx) (s : State) : Res State := retire rd (s.gpr rs - s.gpr rt) s

/-- SLT (R127). -/
def execSlt (rs rt rd : RegIdx) (s : State) : Res State := retire rd (boolWord (lessSigned (s.gpr rs) (s.gpr rt))) s

/-- SLTU (R128). -/
def execSltu (rs rt rd : RegIdx) (s : State) : Res State := retire rd (boolWord (lessUnsigned (s.gpr rs) (s.gpr rt))) s

/-- SLTI (R129). -/
def execSlti (rs rt : RegIdx) (imm : BitVec 16) (s : State) : Res State :=
  retire rt (boolWord (lessSigned (s.gpr rs) (sext16 imm))) s

/-- SLTIU (R130): the immediate is sign-extended, the comparison unsigned. -/
def execSltiu (rs rt : RegIdx) (imm : BitVec 16) (s : State) : Res State :=
  retire rt (boolWord (lessUnsigned (s.gpr rs) (sext16 imm))) s

/-- AND (R131). -/
def execAnd (rs rt rd : RegIdx) (s : State) : Res State := retire rd (s.gpr rs &&& s.gpr rt) s

/-- OR (R132). -/
def execOr (rs rt rd : RegIdx) (s : State) : Res State := retire rd (s.gpr rs ||| s.gpr rt) s

/-- XOR (R133). -/
def execXor (rs rt rd : RegIdx) (s : State) : Res State := retire rd (s.gpr rs ^^^ s.gpr rt) s

/-- NOR (R134): the complement of the whole disjunction. -/
def execNor (rs rt rd : RegIdx) (s : State) : Res State := retire rd (~~~(s.gpr rs ||| s.gpr rt)) s

/-- ANDI (R135). -/
def execAndi (rs rt : RegIdx) (imm : BitVec 16) (s : State) : Res State := retire rt (s.gpr rs &&& zext16 imm) s

/-- ORI (R136): the destination is `rt` (90_conflicts.md C1). -/
def execOri (rs rt : RegIdx) (imm : BitVec 16) (s : State) : Res State := retire rt (s.gpr rs ||| zext16 imm) s

/-- XORI (R137): the destination is `rt` (90_conflicts.md C1). -/
def execXori (rs rt : RegIdx) (imm : BitVec 16) (s : State) : Res State := retire rt (s.gpr rs ^^^ zext16 imm) s

/-- LUI (R138). -/
def execLui (rt : RegIdx) (imm : BitVec 16) (s : State) : Res State := retire rt (upper16 imm) s

/-- How many of the low `n` bits of `v`, counted from bit `n - 1` downward, equal `bit` before the first that does not. -/
def countLeading (bit : Bool) (v : Word) : Nat → Nat
  | 0 => 0
  | n + 1 => if v.getLsbD n = bit then countLeading bit v n + 1 else 0

/-- CLZ (R139); the `rt` field is ignored (30_encoding.md R111). -/
def execClz (rs _rt rd : RegIdx) (s : State) : Res State := retire rd (BitVec.ofNat 32 (countLeading false (s.gpr rs) 32)) s

/-- CLO (R140); the `rt` field is ignored (30_encoding.md R111). -/
def execClo (rs _rt rd : RegIdx) (s : State) : Res State := retire rd (BitVec.ofNat 32 (countLeading true (s.gpr rs) 32)) s

end Sys2Proof.Machine
end

