-- ==== Sys2Proof/Machine/Branch.lean ====
section
/-! DEFINITION. The conditional branches (44_branch.md). Taken or not, the instruction in the delay slot executes next (R215,
R224). -/

namespace Sys2Proof.Machine

/-- A conditional branch: `branch_to(target)` if taken, else `fall_through` (R215, R216), after the delay-slot check (R217). -/
def branchIf (taken : Bool) (offset : BitVec 16) (s : State) : Res State :=
  slotCheck s (.next (if taken then s.branchTo (branchTarget s.pc offset) else s.fallThrough))

/-- BEQ (R218). -/
def execBeq (rs rt : RegIdx) (offset : BitVec 16) (s : State) : Res State := branchIf (s.gpr rs == s.gpr rt) offset s

/-- BNE (R219). -/
def execBne (rs rt : RegIdx) (offset : BitVec 16) (s : State) : Res State := branchIf (s.gpr rs != s.gpr rt) offset s

/-- BGEZ (R220). -/
def execBgez (rs : RegIdx) (offset : BitVec 16) (s : State) : Res State := branchIf (geZero (s.gpr rs)) offset s

/-- BGTZ (R221). -/
def execBgtz (rs : RegIdx) (offset : BitVec 16) (s : State) : Res State := branchIf (gtZero (s.gpr rs)) offset s

/-- BLEZ (R222). -/
def execBlez (rs : RegIdx) (offset : BitVec 16) (s : State) : Res State := branchIf (leZero (s.gpr rs)) offset s

/-- BLTZ (R223). -/
def execBltz (rs : RegIdx) (offset : BitVec 16) (s : State) : Res State := branchIf (ltZero (s.gpr rs)) offset s

end Sys2Proof.Machine
end

