-- ==== Sys2Proof/Machine/Jump.lean ====
section
/-! DEFINITION. The jumps and the branch-and-link (45_jump.md). The target is not checked; a bad one faults when it is fetched
(R230). -/

namespace Sys2Proof.Machine

/-- J (R231). -/
def execJ (index : BitVec 26) (s : State) : Res State := slotCheck s (.next (s.branchTo (jumpTarget s.pc index)))

/-- JAL (R232). -/
def execJal (index : BitVec 26) (s : State) : Res State :=
  slotCheck s (.next ((s.setGpr linkReg (linkValue s.pc)).branchTo (jumpTarget s.pc index)))

/-- JR (R233); `hint` is ignored. -/
def execJr (rs : RegIdx) (_hint : BitVec 5) (s : State) : Res State := slotCheck s (.next (s.branchTo (s.gpr rs)))

/-- JALR (R234): the target is read before the link is written; `hint` is ignored. -/
def execJalr (rs rd : RegIdx) (_hint : BitVec 5) (s : State) : Res State :=
  slotCheck s (.next ((s.setGpr rd (linkValue s.pc)).branchTo (s.gpr rs)))

/-- BAL (R235). -/
def execBal (offset : BitVec 16) (s : State) : Res State :=
  slotCheck s (.next ((s.setGpr linkReg (linkValue s.pc)).branchTo (branchTarget s.pc offset)))

end Sys2Proof.Machine
end

