-- ==== Sys2Proof/Machine/LoadStore.lean ====
section
/-! DEFINITION. Loads and stores (43_load_store.md). Every check comes before every write (R186); a fault changes nothing. -/

namespace Sys2Proof.Machine

/-- A load of `n` bytes: the value read, through `f`, goes to `x[rt]` (R186). -/
def loadWith (f : Word → Word) (n : Nat) (base rt : RegIdx) (offset : BitVec 16) (s : State) : Res State :=
  andThen (memRead s .load (effAddr s base offset) n) fun v => retire rt (f v) s

/-- LB (R190). -/
def execLb (base rt : RegIdx) (offset : BitVec 16) (s : State) : Res State := loadWith sextByte 1 base rt offset s

/-- LBU (R191). -/
def execLbu (base rt : RegIdx) (offset : BitVec 16) (s : State) : Res State := loadWith id 1 base rt offset s

/-- LH (R192). -/
def execLh (base rt : RegIdx) (offset : BitVec 16) (s : State) : Res State := loadWith sextHalf 2 base rt offset s

/-- LHU (R193). -/
def execLhu (base rt : RegIdx) (offset : BitVec 16) (s : State) : Res State := loadWith id 2 base rt offset s

/-- LW (R194). -/
def execLw (base rt : RegIdx) (offset : BitVec 16) (s : State) : Res State := loadWith id 4 base rt offset s

/-- LWL (R196). -/
def execLwl (base rt : RegIdx) (offset : BitVec 16) (s : State) : Res State :=
  let addr := effAddr s base offset
  let span := leftSpan s.par.byteOrder addr
  andThen (loadLanes s .load addr span.start span.count) fun lanes => retire rt (mergeLeft (s.gpr rt) lanes) s

/-- LWR (R197). -/
def execLwr (base rt : RegIdx) (offset : BitVec 16) (s : State) : Res State :=
  let addr := effAddr s base offset
  let span := rightSpan s.par.byteOrder addr
  andThen (loadLanes s .load addr span.start span.count) fun lanes => retire rt (mergeRight (s.gpr rt) lanes) s

/-- LL (R198): the value of LW, and the reservation. -/
def execLl (base rt : RegIdx) (offset : BitVec 16) (s : State) : Res State :=
  let addr := effAddr s base offset
  andThen (memRead s .load addr 4) fun v => retire rt v (s.reserve addr)

/-- A store of the low `n` bytes of `x[rt]` (R186). -/
def storeLow (n : Nat) (base rt : RegIdx) (offset : BitVec 16) (s : State) : Res State :=
  andThen (memWrite s (effAddr s base offset) n (s.gpr rt)) fun t => .next t.advance

/-- SB (R200). -/
def execSb (base rt : RegIdx) (offset : BitVec 16) (s : State) : Res State := storeLow 1 base rt offset s

/-- SH (R201). -/
def execSh (base rt : RegIdx) (offset : BitVec 16) (s : State) : Res State := storeLow 2 base rt offset s

/-- SW (R202). -/
def execSw (base rt : RegIdx) (offset : BitVec 16) (s : State) : Res State := storeLow 4 base rt offset s

/-- SWL (R205): the most significant bytes of `x[rt]`. -/
def execSwl (base rt : RegIdx) (offset : BitVec 16) (s : State) : Res State :=
  let addr := effAddr s base offset
  let span := leftSpan s.par.byteOrder addr
  andThen (storeLanes s addr span.start ((toLanes (s.gpr rt)).drop (4 - span.count))) fun t => .next t.advance

/-- SWR (R206): the least significant bytes of `x[rt]`. -/
def execSwr (base rt : RegIdx) (offset : BitVec 16) (s : State) : Res State :=
  let addr := effAddr s base offset
  let span := rightSpan s.par.byteOrder addr
  andThen (storeLanes s addr span.start ((toLanes (s.gpr rt)).take span.count)) fun t => .next t.advance

/-- The success of an SC and the state after the decision: where the policy leaves it open, a free value is drawn
(R208; log entry 12). -/
def scResolve (s : State) (addr : Word) : Bool × State :=
  match scDecision s addr with
  | some ok => (ok, s)
  | none => (Config.scDraw s.draws, s.drawn)

/-- SC (R208): the address is checked whether or not the store happens; the value stored is the one `x[rt]` had before. -/
def execSc (base rt : RegIdx) (offset : BitVec 16) (s : State) : Res State :=
  let addr := effAddr s base offset
  andThen (alignCheck .store addr 4) fun _ =>
    andThen (accessCheck s .store addr addr 4) fun _ =>
      let ok := (scResolve s addr).1
      let u := (scResolve s addr).2
      let t := if ok then u.storeBytes addr (arrange s.par.byteOrder (toLanes (s.gpr rt))) else u
      retire rt (boolWord ok) t.clearReservation

end Sys2Proof.Machine
end

