-- ==== Sys2Proof/Machine/Ranges.lean ====
section
/-! DEFINITION. The legal ranges of the bit-field operands (30_encoding.md R95, 47_misc.md R276, R277). -/

namespace Sys2Proof

/-- The legal range of EXT: the field `x[rs][msbd+lsb : lsb]` names no bit above 31 (R276). -/
def extInRange (msbd lsb : BitVec 5) : Bool := decide (msbd.toNat + lsb.toNat ≤ 31)

/-- The legal range of INS: the field has at least one bit (R277). -/
def insInRange (msb lsb : BitVec 5) : Bool := decide (lsb.toNat ≤ msb.toNat)

end Sys2Proof
end

