-- ==== Sys2Proof/Syntax.lean ====
section
/-! DEFINITION. The instructions: one constructor for each of the 76 rows of spec/opcode_table.json, in the table's order,
with the row's fields in the order of their bits from the top (30_encoding.md R81, R86). A field that no meaning uses
(R96, R111: `code`, `hint`, `stype`, the `rt` of CLZ and CLO, the operands of SYNCI and PREF) is kept, so that an instruction
has exactly one word. -/

namespace Sys2Proof

/-- An instruction of the machine (R86). The string in each docstring is the source's function text; the rule after it
gives the meaning. -/
inductive Instr where
  /-- ADD: "rd = rs + rt" (40_alu_arith_logic.md R121). -/
  | add (rs rt rd : RegIdx)
  /-- ADDI: "rt = rs + sext(imm)" (40_alu_arith_logic.md R123). -/
  | addi (rs rt : RegIdx) (imm : BitVec 16)
  /-- ADDIU: "rt = rs + sext(imm)" (40_alu_arith_logic.md R124). -/
  | addiu (rs rt : RegIdx) (imm : BitVec 16)
  /-- ADDU: "rd = rs + rt" (40_alu_arith_logic.md R122). -/
  | addu (rs rt rd : RegIdx)
  /-- AND: "rd = rs & rt" (40_alu_arith_logic.md R131). -/
  | and (rs rt rd : RegIdx)
  /-- ANDI: "rt = rs & zext(imm)" (40_alu_arith_logic.md R135). -/
  | andi (rs rt : RegIdx) (imm : BitVec 16)
  /-- BEQ: "PC = PC + sext(offset<<2), if rs == rt" (44_branch.md R218). -/
  | beq (rs rt : RegIdx) (offset : BitVec 16)
  /-- BGEZ: "PC = PC + sext(offset<<2), if rs >= 0" (44_branch.md R220). -/
  | bgez (rs : RegIdx) (offset : BitVec 16)
  /-- BGTZ: "PC = PC + sext(offset<<2), if rs > 0" (44_branch.md R221). -/
  | bgtz (rs : RegIdx) (offset : BitVec 16)
  /-- BLEZ: "PC = PC + sext(offset<<2), if rs <= 0" (44_branch.md R222). -/
  | blez (rs : RegIdx) (offset : BitVec 16)
  /-- BLTZ: "PC = PC + sext(offset<<2), if rs < 0" (44_branch.md R223). -/
  | bltz (rs : RegIdx) (offset : BitVec 16)
  /-- BNE: "PC = PC + sext(offset<<2), if rs != rt" (44_branch.md R219). -/
  | bne (rs rt : RegIdx) (offset : BitVec 16)
  /-- CLO: "rd = count_leading_ones(rs)" (40_alu_arith_logic.md R140). -/
  | clo (rs rt rd : RegIdx)
  /-- CLZ: "rd = count_leading_zeros(rs)" (40_alu_arith_logic.md R139). -/
  | clz (rs rt rd : RegIdx)
  /-- DIV: "(hi, lo) = (rs%rt, rs/ rt), signed" (42_alu_muldiv.md R169). -/
  | div (rs rt : RegIdx)
  /-- DIVU: "(hi, lo) = (rs%rt, rs/rt), unsigned" (42_alu_muldiv.md R170). -/
  | divu (rs rt : RegIdx)
  /-- J: "PC = PC[GPRLEN-1..28] || instr_index || 00" (45_jump.md R231). -/
  | j (instrIndex : BitVec 26)
  /-- JAL: "r31 = PC + 8, PC = PC[GPRLEN-1..28] || instr_index || 00" (45_jump.md R232). -/
  | jal (instrIndex : BitVec 26)
  /-- JALR: "rd = PC + 8, PC = rs" (45_jump.md R234). -/
  | jalr (rs rd : RegIdx) (hint : BitVec 5)
  /-- JR: "PC = rs" (45_jump.md R233). -/
  | jr (rs : RegIdx) (hint : BitVec 5)
  /-- LB: "rt = sext(mem_byte(base + offset))" (43_load_store.md R190). -/
  | lb (base rt : RegIdx) (offset : BitVec 16)
  /-- LBU: "rt = zext(mem_byte(base + offset))" (43_load_store.md R191). -/
  | lbu (base rt : RegIdx) (offset : BitVec 16)
  /-- LH: "rt = sext(mem_halfword(base + offset))" (43_load_store.md R192). -/
  | lh (base rt : RegIdx) (offset : BitVec 16)
  /-- LHU: "rt = zext(mem_halfword(base + offset))" (43_load_store.md R193). -/
  | lhu (base rt : RegIdx) (offset : BitVec 16)
  /-- LL: "rt = mem_word(base + offset)" (43_load_store.md R198). -/
  | ll (base rt : RegIdx) (offset : BitVec 16)
  /-- LUI: "rt = imm<<16" (40_alu_arith_logic.md R138). -/
  | lui (rt : RegIdx) (imm : BitVec 16)
  /-- LW: "rt = mem_word(base + offset)" (43_load_store.md R194). -/
  | lw (base rt : RegIdx) (offset : BitVec 16)
  /-- LWL: "rt = rt merge most significant part of mem(base+offset)" (43_load_store.md R196). -/
  | lwl (base rt : RegIdx) (offset : BitVec 16)
  /-- LWR: "rt = rt merge least significant part of mem(base+offset)" (43_load_store.md R197). -/
  | lwr (base rt : RegIdx) (offset : BitVec 16)
  /-- MFHI: "rd = hi" (42_alu_muldiv.md R171). -/
  | mfhi (rd : RegIdx)
  /-- MFLO: "rd = lo" (42_alu_muldiv.md R172). -/
  | mflo (rd : RegIdx)
  /-- MOVN: "rd = rs, if rt != 0" (47_misc.md R271). -/
  | movn (rs rt rd : RegIdx)
  /-- MOVZ: "rd = rs, if rt == 0" (47_misc.md R272). -/
  | movz (rs rt rd : RegIdx)
  /-- MTHI: "hi = rs" (42_alu_muldiv.md R173). -/
  | mthi (rs : RegIdx)
  /-- MTLO: "lo = rs" (42_alu_muldiv.md R174). -/
  | mtlo (rs : RegIdx)
  /-- MUL: "rd = rs * rt" (42_alu_muldiv.md R168). -/
  | mul (rs rt rd : RegIdx)
  /-- MULT: "(hi, lo) = rs * rt" (42_alu_muldiv.md R166). -/
  | mult (rs rt : RegIdx)
  /-- MULTU: "(hi, lo) = rs * rt" (42_alu_muldiv.md R167). -/
  | multu (rs rt : RegIdx)
  /-- NOR: "rd = !rs | rt" (40_alu_arith_logic.md R134). -/
  | nor (rs rt rd : RegIdx)
  /-- OR: "rd = rs | rt" (40_alu_arith_logic.md R132). -/
  | or (rs rt rd : RegIdx)
  /-- ORI: "rd = rs | zext(imm)" (40_alu_arith_logic.md R136). -/
  | ori (rs rt : RegIdx) (imm : BitVec 16)
  /-- SB: "mem_byte(base + offset) = rt" (43_load_store.md R200). -/
  | sb (base rt : RegIdx) (offset : BitVec 16)
  /-- SC: "mem_word(base + offset) = rt, rt = 1, if atomic update, else rt = 0" (43_load_store.md R208). -/
  | sc (base rt : RegIdx) (offset : BitVec 16)
  /-- SH: "mem_halfword(base + offset) = rt" (43_load_store.md R201). -/
  | sh (base rt : RegIdx) (offset : BitVec 16)
  /-- SLL: "rd = rt<<sa" (41_alu_shift.md R151). -/
  | sll (rt rd : RegIdx) (sa : BitVec 5)
  /-- SLLV: "rd = rt << rs[4:0]" (41_alu_shift.md R154). -/
  | sllv (rs rt rd : RegIdx)
  /-- SLT: "rd = rs < rt" (40_alu_arith_logic.md R127). -/
  | slt (rs rt rd : RegIdx)
  /-- SLTI: "rt = rs < sext(imm)" (40_alu_arith_logic.md R129). -/
  | slti (rs rt : RegIdx) (imm : BitVec 16)
  /-- SLTIU: "rt = rs < sext(imm)" (40_alu_arith_logic.md R130). -/
  | sltiu (rs rt : RegIdx) (imm : BitVec 16)
  /-- SLTU: "rd = rs < rt" (40_alu_arith_logic.md R128). -/
  | sltu (rs rt rd : RegIdx)
  /-- SRA: "rd = rt >> sa" (41_alu_shift.md R153). -/
  | sra (rt rd : RegIdx) (sa : BitVec 5)
  /-- SRAV: "rd = rt >> rs[4:0]" (41_alu_shift.md R156). -/
  | srav (rs rt rd : RegIdx)
  /-- SYNC: "sync (nop)" (47_misc.md R280). -/
  | sync (stype : BitVec 5)
  /-- SRL: "rd = rt >> sa" (41_alu_shift.md R152). -/
  | srl (rt rd : RegIdx) (sa : BitVec 5)
  /-- SRLV: "rd = rt >> rs[4:0]" (41_alu_shift.md R155). -/
  | srlv (rs rt rd : RegIdx)
  /-- SUB: "rd = rs - rt" (40_alu_arith_logic.md R125). -/
  | sub (rs rt rd : RegIdx)
  /-- SUBU: "rd = rs - rt" (40_alu_arith_logic.md R126). -/
  | subu (rs rt rd : RegIdx)
  /-- SW: "mem_word(base + offset) = rt" (43_load_store.md R202). -/
  | sw (base rt : RegIdx) (offset : BitVec 16)
  /-- SWL: "store most significant part of rt" (43_load_store.md R205). -/
  | swl (base rt : RegIdx) (offset : BitVec 16)
  /-- SWR: "store least significant part of rt" (43_load_store.md R206). -/
  | swr (base rt : RegIdx) (offset : BitVec 16)
  /-- SYSCALL: "syscall" (46_syscall.md R245). -/
  | syscall (code : BitVec 20)
  /-- XOR: "rd = rs ^ rt" (40_alu_arith_logic.md R133). -/
  | xor (rs rt rd : RegIdx)
  /-- XORI: "rd = rs ^ zext(imm)" (40_alu_arith_logic.md R137). -/
  | xori (rs rt : RegIdx) (imm : BitVec 16)
  /-- BAL: "RA = PC + 8, PC = PC + sign_extend(offset || 00)" (45_jump.md R235). -/
  | bal (offset : BitVec 16)
  /-- SYNCI: "sync (nop)" (47_misc.md R281). -/
  | synci (base : RegIdx) (offset : BitVec 16)
  /-- PREF: "prefetch(nop)" (47_misc.md R282). -/
  | pref (base : RegIdx) (hint : BitVec 5) (offset : BitVec 16)
  /-- TEQ: "trap,if rs == rt" (47_misc.md R273). -/
  | teq (rs rt : RegIdx) (code : BitVec 10)
  /-- ROTR: "rd = rotate_right(rt, sa)" (41_alu_shift.md R157). -/
  | rotr (rt rd : RegIdx) (sa : BitVec 5)
  /-- ROTRV: "rd = rotate_right(rt, rs[4:0])" (41_alu_shift.md R158). -/
  | rotrv (rs rt rd : RegIdx)
  /-- WSBH: "rd = swaphalf(rt)" (47_misc.md R278). -/
  | wsbh (rt rd : RegIdx)
  /-- EXT: "rt = rs[msbd+lsb..lsb]" (47_misc.md R276). -/
  | ext (rs rt : RegIdx) (msbd lsb : BitVec 5)
  /-- SEH: "rd = signExtend(rt[15..0])" (47_misc.md R275). -/
  | seh (rt rd : RegIdx)
  /-- SEB: "rd = signExtend(rt[7..0])" (47_misc.md R274). -/
  | seb (rt rd : RegIdx)
  /-- INS: "rt = rt[32:msb+1] || rs[msb+1-lsb : 0] || rt[lsb-1:0]" (47_misc.md R277). -/
  | ins (rs rt : RegIdx) (msb lsb : BitVec 5)
  /-- MADDU: "(hi, lo) = rs * rt + (hi,lo)" (47_misc.md R279). -/
  | maddu (rs rt : RegIdx)
  /-- MSUBU: "(hi, lo) = (hi,lo) - rs * rt" (47_misc.md R283). -/
  | msubu (rs rt : RegIdx)
  deriving DecidableEq, Repr

end Sys2Proof
end

