-- ==== Sys2Proof/WellFormed.lean ====
section
/-! DEFINITION. The checks on an instruction's operands. The operand types admit exactly the values the fields of a word can
hold, so that every instruction has a word and every word that decodes gives one (30_encoding.md R109, R111); what is left to
check are the legal ranges of the bit-field operands (R95, 47_misc.md R276, R277). A word outside them is still an
instruction: it decodes, and its meaning applies `BITFIELD_RANGE`. -/

namespace Sys2Proof

/-- Every operand lies in the range its rule calls legal. -/
def Instr.wellFormed : Instr → Bool
  | .ext _ _ msbd lsb => extInRange msbd lsb
  | .ins _ _ msb lsb => insInRange msb lsb
  | _ => true

end Sys2Proof
end

