-- ==== Sys2Proof/Decode.lean ====
section
/-! DEFINITION. Decoding by match and mask (30_encoding.md R109) over the 76 rows of the opcode table, total on any word and
on any bytes, rejecting by name (R110); and the encoder, written from the cells of the same rows (R82 to R86). -/

namespace Sys2Proof

/-! ## The fields of a word (R81) -/

/-- `Op`, bits 31 to 26. -/
def fieldOp (w : Word) : BitVec 6 := w.extractLsb' 26 6

/-- `rs` or `base`, bits 25 to 21. -/
def fieldRs (w : Word) : RegIdx := w.extractLsb' 21 5

/-- `rt` (the `hint` of PREF), bits 20 to 16. -/
def fieldRt (w : Word) : RegIdx := w.extractLsb' 16 5

/-- `rd` (the `msbd` of EXT, the `msb` of INS), bits 15 to 11. -/
def fieldRd (w : Word) : RegIdx := w.extractLsb' 11 5

/-- `shamt` (`sa`, `stype`, `lsb`, the `hint` of JR and JALR), bits 10 to 6. -/
def fieldShamt (w : Word) : BitVec 5 := w.extractLsb' 6 5

/-- `func`, bits 5 to 0. -/
def fieldFunc (w : Word) : BitVec 6 := w.extractLsb' 0 6

/-- `imm` or `offset`, bits 15 to 0. -/
def fieldImm (w : Word) : BitVec 16 := w.extractLsb' 0 16

/-- `instr_index`, bits 25 to 0. -/
def fieldIndex (w : Word) : BitVec 26 := w.extractLsb' 0 26

/-- The `code` of SYSCALL, bits 25 to 6. -/
def fieldCode20 (w : Word) : BitVec 20 := w.extractLsb' 6 20

/-- The `code` of TEQ, bits 15 to 6. -/
def fieldCode10 (w : Word) : BitVec 10 := w.extractLsb' 6 10

/-! ## The opcode table (R86) -/

/-- A row of the table: a word `w` is the row's instruction exactly when `w &&& mask = pattern` (R86). `build` reads the
row's fields. -/
structure Row where
  mask    : Word
  pattern : Word
  build   : Word → Instr

/-- The test of R109. -/
def Row.accepts (r : Row) (w : Word) : Bool := w &&& r.mask == r.pattern

/-- Rows 1 to 19. -/
def rowsAddToJalr : List Row := [
  -- ADD
  ⟨0xFC0007FF#32, 0x00000020#32, fun w => .add (fieldRs w) (fieldRt w) (fieldRd w)⟩,
  -- ADDI
  ⟨0xFC000000#32, 0x20000000#32, fun w => .addi (fieldRs w) (fieldRt w) (fieldImm w)⟩,
  -- ADDIU
  ⟨0xFC000000#32, 0x24000000#32, fun w => .addiu (fieldRs w) (fieldRt w) (fieldImm w)⟩,
  -- ADDU
  ⟨0xFC0007FF#32, 0x00000021#32, fun w => .addu (fieldRs w) (fieldRt w) (fieldRd w)⟩,
  -- AND
  ⟨0xFC0007FF#32, 0x00000024#32, fun w => .and (fieldRs w) (fieldRt w) (fieldRd w)⟩,
  -- ANDI
  ⟨0xFC000000#32, 0x30000000#32, fun w => .andi (fieldRs w) (fieldRt w) (fieldImm w)⟩,
  -- BEQ
  ⟨0xFC000000#32, 0x10000000#32, fun w => .beq (fieldRs w) (fieldRt w) (fieldImm w)⟩,
  -- BGEZ
  ⟨0xFC1F0000#32, 0x04010000#32, fun w => .bgez (fieldRs w) (fieldImm w)⟩,
  -- BGTZ
  ⟨0xFC1F0000#32, 0x1C000000#32, fun w => .bgtz (fieldRs w) (fieldImm w)⟩,
  -- BLEZ
  ⟨0xFC1F0000#32, 0x18000000#32, fun w => .blez (fieldRs w) (fieldImm w)⟩,
  -- BLTZ
  ⟨0xFC1F0000#32, 0x04000000#32, fun w => .bltz (fieldRs w) (fieldImm w)⟩,
  -- BNE
  ⟨0xFC000000#32, 0x14000000#32, fun w => .bne (fieldRs w) (fieldRt w) (fieldImm w)⟩,
  -- CLO
  ⟨0xFC0007FF#32, 0x70000021#32, fun w => .clo (fieldRs w) (fieldRt w) (fieldRd w)⟩,
  -- CLZ
  ⟨0xFC0007FF#32, 0x70000020#32, fun w => .clz (fieldRs w) (fieldRt w) (fieldRd w)⟩,
  -- DIV
  ⟨0xFC00FFFF#32, 0x0000001A#32, fun w => .div (fieldRs w) (fieldRt w)⟩,
  -- DIVU
  ⟨0xFC00FFFF#32, 0x0000001B#32, fun w => .divu (fieldRs w) (fieldRt w)⟩,
  -- J
  ⟨0xFC000000#32, 0x08000000#32, fun w => .j (fieldIndex w)⟩,
  -- JAL
  ⟨0xFC000000#32, 0x0C000000#32, fun w => .jal (fieldIndex w)⟩,
  -- JALR
  ⟨0xFC1F003F#32, 0x00000009#32, fun w => .jalr (fieldRs w) (fieldRd w) (fieldShamt w)⟩]

/-- Rows 20 to 38. -/
def rowsJrToMultu : List Row := [
  -- JR
  ⟨0xFC1FF83F#32, 0x00000008#32, fun w => .jr (fieldRs w) (fieldShamt w)⟩,
  -- LB
  ⟨0xFC000000#32, 0x80000000#32, fun w => .lb (fieldRs w) (fieldRt w) (fieldImm w)⟩,
  -- LBU
  ⟨0xFC000000#32, 0x90000000#32, fun w => .lbu (fieldRs w) (fieldRt w) (fieldImm w)⟩,
  -- LH
  ⟨0xFC000000#32, 0x84000000#32, fun w => .lh (fieldRs w) (fieldRt w) (fieldImm w)⟩,
  -- LHU
  ⟨0xFC000000#32, 0x94000000#32, fun w => .lhu (fieldRs w) (fieldRt w) (fieldImm w)⟩,
  -- LL
  ⟨0xFC000000#32, 0xC0000000#32, fun w => .ll (fieldRs w) (fieldRt w) (fieldImm w)⟩,
  -- LUI
  ⟨0xFFE00000#32, 0x3C000000#32, fun w => .lui (fieldRt w) (fieldImm w)⟩,
  -- LW
  ⟨0xFC000000#32, 0x8C000000#32, fun w => .lw (fieldRs w) (fieldRt w) (fieldImm w)⟩,
  -- LWL
  ⟨0xFC000000#32, 0x88000000#32, fun w => .lwl (fieldRs w) (fieldRt w) (fieldImm w)⟩,
  -- LWR
  ⟨0xFC000000#32, 0x98000000#32, fun w => .lwr (fieldRs w) (fieldRt w) (fieldImm w)⟩,
  -- MFHI
  ⟨0xFFFF07FF#32, 0x00000010#32, fun w => .mfhi (fieldRd w)⟩,
  -- MFLO
  ⟨0xFFFF07FF#32, 0x00000012#32, fun w => .mflo (fieldRd w)⟩,
  -- MOVN
  ⟨0xFC0007FF#32, 0x0000000B#32, fun w => .movn (fieldRs w) (fieldRt w) (fieldRd w)⟩,
  -- MOVZ
  ⟨0xFC0007FF#32, 0x0000000A#32, fun w => .movz (fieldRs w) (fieldRt w) (fieldRd w)⟩,
  -- MTHI
  ⟨0xFC1FFFFF#32, 0x00000011#32, fun w => .mthi (fieldRs w)⟩,
  -- MTLO
  ⟨0xFC1FFFFF#32, 0x00000013#32, fun w => .mtlo (fieldRs w)⟩,
  -- MUL
  ⟨0xFC0007FF#32, 0x70000002#32, fun w => .mul (fieldRs w) (fieldRt w) (fieldRd w)⟩,
  -- MULT
  ⟨0xFC00FFFF#32, 0x00000018#32, fun w => .mult (fieldRs w) (fieldRt w)⟩,
  -- MULTU
  ⟨0xFC00FFFF#32, 0x00000019#32, fun w => .multu (fieldRs w) (fieldRt w)⟩]

/-- Rows 39 to 57. -/
def rowsNorToSubu : List Row := [
  -- NOR
  ⟨0xFC0007FF#32, 0x00000027#32, fun w => .nor (fieldRs w) (fieldRt w) (fieldRd w)⟩,
  -- OR
  ⟨0xFC0007FF#32, 0x00000025#32, fun w => .or (fieldRs w) (fieldRt w) (fieldRd w)⟩,
  -- ORI
  ⟨0xFC000000#32, 0x34000000#32, fun w => .ori (fieldRs w) (fieldRt w) (fieldImm w)⟩,
  -- SB
  ⟨0xFC000000#32, 0xA0000000#32, fun w => .sb (fieldRs w) (fieldRt w) (fieldImm w)⟩,
  -- SC
  ⟨0xFC000000#32, 0xE0000000#32, fun w => .sc (fieldRs w) (fieldRt w) (fieldImm w)⟩,
  -- SH
  ⟨0xFC000000#32, 0xA4000000#32, fun w => .sh (fieldRs w) (fieldRt w) (fieldImm w)⟩,
  -- SLL
  ⟨0xFFE0003F#32, 0x00000000#32, fun w => .sll (fieldRt w) (fieldRd w) (fieldShamt w)⟩,
  -- SLLV
  ⟨0xFC0007FF#32, 0x00000004#32, fun w => .sllv (fieldRs w) (fieldRt w) (fieldRd w)⟩,
  -- SLT
  ⟨0xFC0007FF#32, 0x0000002A#32, fun w => .slt (fieldRs w) (fieldRt w) (fieldRd w)⟩,
  -- SLTI
  ⟨0xFC000000#32, 0x28000000#32, fun w => .slti (fieldRs w) (fieldRt w) (fieldImm w)⟩,
  -- SLTIU
  ⟨0xFC000000#32, 0x2C000000#32, fun w => .sltiu (fieldRs w) (fieldRt w) (fieldImm w)⟩,
  -- SLTU
  ⟨0xFC0007FF#32, 0x0000002B#32, fun w => .sltu (fieldRs w) (fieldRt w) (fieldRd w)⟩,
  -- SRA
  ⟨0xFFE0003F#32, 0x00000003#32, fun w => .sra (fieldRt w) (fieldRd w) (fieldShamt w)⟩,
  -- SRAV
  ⟨0xFC0007FF#32, 0x00000007#32, fun w => .srav (fieldRs w) (fieldRt w) (fieldRd w)⟩,
  -- SYNC
  ⟨0xFFFFF83F#32, 0x0000000F#32, fun w => .sync (fieldShamt w)⟩,
  -- SRL
  ⟨0xFFE0003F#32, 0x00000002#32, fun w => .srl (fieldRt w) (fieldRd w) (fieldShamt w)⟩,
  -- SRLV
  ⟨0xFC0007FF#32, 0x00000006#32, fun w => .srlv (fieldRs w) (fieldRt w) (fieldRd w)⟩,
  -- SUB
  ⟨0xFC0007FF#32, 0x00000022#32, fun w => .sub (fieldRs w) (fieldRt w) (fieldRd w)⟩,
  -- SUBU
  ⟨0xFC0007FF#32, 0x00000023#32, fun w => .subu (fieldRs w) (fieldRt w) (fieldRd w)⟩]

/-- Rows 58 to 76. -/
def rowsSwToMsubu : List Row := [
  -- SW
  ⟨0xFC000000#32, 0xAC000000#32, fun w => .sw (fieldRs w) (fieldRt w) (fieldImm w)⟩,
  -- SWL
  ⟨0xFC000000#32, 0xA8000000#32, fun w => .swl (fieldRs w) (fieldRt w) (fieldImm w)⟩,
  -- SWR
  ⟨0xFC000000#32, 0xB8000000#32, fun w => .swr (fieldRs w) (fieldRt w) (fieldImm w)⟩,
  -- SYSCALL
  ⟨0xFC00003F#32, 0x0000000C#32, fun w => .syscall (fieldCode20 w)⟩,
  -- XOR
  ⟨0xFC0007FF#32, 0x00000026#32, fun w => .xor (fieldRs w) (fieldRt w) (fieldRd w)⟩,
  -- XORI
  ⟨0xFC000000#32, 0x38000000#32, fun w => .xori (fieldRs w) (fieldRt w) (fieldImm w)⟩,
  -- BAL
  ⟨0xFFFF0000#32, 0x04110000#32, fun w => .bal (fieldImm w)⟩,
  -- SYNCI
  ⟨0xFC1F0000#32, 0x041F0000#32, fun w => .synci (fieldRs w) (fieldImm w)⟩,
  -- PREF
  ⟨0xFC000000#32, 0xCC000000#32, fun w => .pref (fieldRs w) (fieldRt w) (fieldImm w)⟩,
  -- TEQ
  ⟨0xFC00003F#32, 0x00000034#32, fun w => .teq (fieldRs w) (fieldRt w) (fieldCode10 w)⟩,
  -- ROTR
  ⟨0xFFE0003F#32, 0x00200002#32, fun w => .rotr (fieldRt w) (fieldRd w) (fieldShamt w)⟩,
  -- ROTRV
  ⟨0xFC0007FF#32, 0x00000046#32, fun w => .rotrv (fieldRs w) (fieldRt w) (fieldRd w)⟩,
  -- WSBH
  ⟨0xFFE007FF#32, 0x7C0000A0#32, fun w => .wsbh (fieldRt w) (fieldRd w)⟩,
  -- EXT
  ⟨0xFC00003F#32, 0x7C000000#32, fun w => .ext (fieldRs w) (fieldRt w) (fieldRd w) (fieldShamt w)⟩,
  -- SEH
  ⟨0xFFE007FF#32, 0x7C000620#32, fun w => .seh (fieldRt w) (fieldRd w)⟩,
  -- SEB
  ⟨0xFFE007FF#32, 0x7C000420#32, fun w => .seb (fieldRt w) (fieldRd w)⟩,
  -- INS
  ⟨0xFC00003F#32, 0x7C000004#32, fun w => .ins (fieldRs w) (fieldRt w) (fieldRd w) (fieldShamt w)⟩,
  -- MADDU
  ⟨0xFC00FFFF#32, 0x70000001#32, fun w => .maddu (fieldRs w) (fieldRt w)⟩,
  -- MSUBU
  ⟨0xFC00FFFF#32, 0x70000005#32, fun w => .msubu (fieldRs w) (fieldRt w)⟩]

/-- The 76 rows, in the table's order. -/
def opcodeTable : List Row := rowsAddToJalr ++ rowsJrToMultu ++ rowsNorToSubu ++ rowsSwToMsubu

/-! ## Decoding (R109, R110) -/

/-- Why bytes are no instruction. -/
inductive DecodeError where
  /-- Fewer than the four bytes of an instruction (R80). -/
  | truncated (bytes : Nat)
  /-- The word matches no row (R110). -/
  | reservedInstruction (word : Word)
  deriving DecidableEq, Repr

/-- What a decoder answers: an instruction, or a rejection by name. -/
inductive Decoded where
  | instr (i : Instr)
  | rejected (why : DecodeError)
  deriving DecidableEq, Repr

/-- The instruction a word is: that of the row whose masked bits it has (R109); a word that matches no row is none (R110). -/
def decodeWord (w : Word) : Decoded :=
  match opcodeTable.find? (fun r => r.accepts w) with
  | some r => .instr (r.build w)
  | none => .rejected (.reservedInstruction w)

/-- The instruction in the first four of some bytes, given in the order of their addresses and assembled in the byte
order of data (20_memory.md R54). -/
def decodeBytes (order : ByteOrder) (bs : List Byte) : Decoded :=
  match bs with
  | b0 :: b1 :: b2 :: b3 :: _ => decodeWord (ofLanes (arrange order [b0, b1, b2, b3]))
  | short => .rejected (.truncated short.length)

/-! ## Encoding (R82, R83, R84) -/

/-- Format R (R82). -/
def encR (op : BitVec 6) (rs rt rd shamt : BitVec 5) (func : BitVec 6) : Word := op ++ rs ++ rt ++ rd ++ shamt ++ func

/-- Format I (R83). -/
def encI (op : BitVec 6) (rs rt : BitVec 5) (imm : BitVec 16) : Word := op ++ rs ++ rt ++ imm

/-- Format J (R84). -/
def encJ (op : BitVec 6) (index : BitVec 26) : Word := op ++ index

/-- The word of an instruction, from the cells of its row (R86). -/
def encode : Instr → Word
  | .add rs rt rd => encR 0b000000#6 rs rt rd 0b00000#5 0b100000#6
  | .addi rs rt imm => encI 0b001000#6 rs rt imm
  | .addiu rs rt imm => encI 0b001001#6 rs rt imm
  | .addu rs rt rd => encR 0b000000#6 rs rt rd 0b00000#5 0b100001#6
  | .and rs rt rd => encR 0b000000#6 rs rt rd 0b00000#5 0b100100#6
  | .andi rs rt imm => encI 0b001100#6 rs rt imm
  | .beq rs rt offset => encI 0b000100#6 rs rt offset
  | .bgez rs offset => encI 0b000001#6 rs 0b00001#5 offset
  | .bgtz rs offset => encI 0b000111#6 rs 0b00000#5 offset
  | .blez rs offset => encI 0b000110#6 rs 0b00000#5 offset
  | .bltz rs offset => encI 0b000001#6 rs 0b00000#5 offset
  | .bne rs rt offset => encI 0b000101#6 rs rt offset
  | .clo rs rt rd => encR 0b011100#6 rs rt rd 0b00000#5 0b100001#6
  | .clz rs rt rd => encR 0b011100#6 rs rt rd 0b00000#5 0b100000#6
  | .div rs rt => encR 0b000000#6 rs rt 0b00000#5 0b00000#5 0b011010#6
  | .divu rs rt => encR 0b000000#6 rs rt 0b00000#5 0b00000#5 0b011011#6
  | .j instrIndex => encJ 0b000010#6 instrIndex
  | .jal instrIndex => encJ 0b000011#6 instrIndex
  | .jalr rs rd hint => encR 0b000000#6 rs 0b00000#5 rd hint 0b001001#6
  | .jr rs hint => encR 0b000000#6 rs 0b00000#5 0b00000#5 hint 0b001000#6
  | .lb base rt offset => encI 0b100000#6 base rt offset
  | .lbu base rt offset => encI 0b100100#6 base rt offset
  | .lh base rt offset => encI 0b100001#6 base rt offset
  | .lhu base rt offset => encI 0b100101#6 base rt offset
  | .ll base rt offset => encI 0b110000#6 base rt offset
  | .lui rt imm => encI 0b001111#6 0b00000#5 rt imm
  | .lw base rt offset => encI 0b100011#6 base rt offset
  | .lwl base rt offset => encI 0b100010#6 base rt offset
  | .lwr base rt offset => encI 0b100110#6 base rt offset
  | .mfhi rd => encR 0b000000#6 0b00000#5 0b00000#5 rd 0b00000#5 0b010000#6
  | .mflo rd => encR 0b000000#6 0b00000#5 0b00000#5 rd 0b00000#5 0b010010#6
  | .movn rs rt rd => encR 0b000000#6 rs rt rd 0b00000#5 0b001011#6
  | .movz rs rt rd => encR 0b000000#6 rs rt rd 0b00000#5 0b001010#6
  | .mthi rs => encR 0b000000#6 rs 0b00000#5 0b00000#5 0b00000#5 0b010001#6
  | .mtlo rs => encR 0b000000#6 rs 0b00000#5 0b00000#5 0b00000#5 0b010011#6
  | .mul rs rt rd => encR 0b011100#6 rs rt rd 0b00000#5 0b000010#6
  | .mult rs rt => encR 0b000000#6 rs rt 0b00000#5 0b00000#5 0b011000#6
  | .multu rs rt => encR 0b000000#6 rs rt 0b00000#5 0b00000#5 0b011001#6
  | .nor rs rt rd => encR 0b000000#6 rs rt rd 0b00000#5 0b100111#6
  | .or rs rt rd => encR 0b000000#6 rs rt rd 0b00000#5 0b100101#6
  | .ori rs rt imm => encI 0b001101#6 rs rt imm
  | .sb base rt offset => encI 0b101000#6 base rt offset
  | .sc base rt offset => encI 0b111000#6 base rt offset
  | .sh base rt offset => encI 0b101001#6 base rt offset
  | .sll rt rd sa => encR 0b000000#6 0b00000#5 rt rd sa 0b000000#6
  | .sllv rs rt rd => encR 0b000000#6 rs rt rd 0b00000#5 0b000100#6
  | .slt rs rt rd => encR 0b000000#6 rs rt rd 0b00000#5 0b101010#6
  | .slti rs rt imm => encI 0b001010#6 rs rt imm
  | .sltiu rs rt imm => encI 0b001011#6 rs rt imm
  | .sltu rs rt rd => encR 0b000000#6 rs rt rd 0b00000#5 0b101011#6
  | .sra rt rd sa => encR 0b000000#6 0b00000#5 rt rd sa 0b000011#6
  | .srav rs rt rd => encR 0b000000#6 rs rt rd 0b00000#5 0b000111#6
  | .sync stype => encR 0b000000#6 0b00000#5 0b00000#5 0b00000#5 stype 0b001111#6
  | .srl rt rd sa => encR 0b000000#6 0b00000#5 rt rd sa 0b000010#6
  | .srlv rs rt rd => encR 0b000000#6 rs rt rd 0b00000#5 0b000110#6
  | .sub rs rt rd => encR 0b000000#6 rs rt rd 0b00000#5 0b100010#6
  | .subu rs rt rd => encR 0b000000#6 rs rt rd 0b00000#5 0b100011#6
  | .sw base rt offset => encI 0b101011#6 base rt offset
  | .swl base rt offset => encI 0b101010#6 base rt offset
  | .swr base rt offset => encI 0b101110#6 base rt offset
  | .syscall code => 0b000000#6 ++ code ++ 0b001100#6
  | .xor rs rt rd => encR 0b000000#6 rs rt rd 0b00000#5 0b100110#6
  | .xori rs rt imm => encI 0b001110#6 rs rt imm
  | .bal offset => encI 0b000001#6 0b00000#5 0b10001#5 offset
  | .synci base offset => encI 0b000001#6 base 0b11111#5 offset
  | .pref base hint offset => encI 0b110011#6 base hint offset
  | .teq rs rt code => 0b000000#6 ++ rs ++ rt ++ code ++ 0b110100#6
  | .rotr rt rd sa => encR 0b000000#6 0b00001#5 rt rd sa 0b000010#6
  | .rotrv rs rt rd => encR 0b000000#6 rs rt rd 0b00001#5 0b000110#6
  | .wsbh rt rd => encR 0b011111#6 0b00000#5 rt rd 0b00010#5 0b100000#6
  | .ext rs rt msbd lsb => encR 0b011111#6 rs rt msbd lsb 0b000000#6
  | .seh rt rd => encR 0b011111#6 0b00000#5 rt rd 0b11000#5 0b100000#6
  | .seb rt rd => encR 0b011111#6 0b00000#5 rt rd 0b10000#5 0b100000#6
  | .ins rs rt msb lsb => encR 0b011111#6 rs rt msb lsb 0b000100#6
  | .maddu rs rt => encR 0b011100#6 rs rt 0b00000#5 0b00000#5 0b000001#6
  | .msubu rs rt => encR 0b011100#6 rs rt 0b00000#5 0b00000#5 0b000101#6

/-- The bytes of an instruction in the order of their addresses (R54). -/
def encodeBytes (order : ByteOrder) (i : Instr) : List Byte := arrange order (toLanes (encode i))

/-! ## The opcode table's own numbering -/

/-- What the decoder reads from an instruction of the table given as `nbits` bits numbered as the table numbers them: the
32-bit word, laid out as four bytes in memory and read back. The byte order is the default; R54 uses the same one in both
directions. -/
def decodeTableWord (nbits w : Nat) : Option Instr :=
  match decodeBytes .little (arrange .little (toLanes (BitVec.ofNat 32 (w % 2 ^ nbits)))) with
  | .instr i => some i
  | .rejected _ => none

end Sys2Proof
end

