-- ==== Sys2Proof/Machine/MulDiv.lean ====
section
/-! DEFINITION. Multiply, divide and the moves from and to `hi` and `lo` (42_alu_muldiv.md). None can fault (R165). -/

namespace Sys2Proof.Machine

/-- The exact product of the operands read as two's-complement integers, in 64 bits (R166, R176). -/
def productSigned (a b : Word) : BitVec 64 := BitVec.ofInt 64 (a.toInt * b.toInt)

/-- The exact product of the operands read as natural numbers, in 64 bits (R167, R176). -/
def productUnsigned (a b : Word) : BitVec 64 := BitVec.ofNat 64 (a.toNat * b.toNat)

/-- MULT (R166). -/
def execMult (rs rt : RegIdx) (s : State) : Res State := .next (s.setHiLo (productSigned (s.gpr rs) (s.gpr rt))).advance

/-- MULTU (R167). -/
def execMultu (rs rt : RegIdx) (s : State) : Res State := .next (s.setHiLo (productUnsigned (s.gpr rs) (s.gpr rt))).advance

/-- MUL (R168): `hi` and `lo` keep their values. -/
def execMul (rs rt rd : RegIdx) (s : State) : Res State := retire rd (s.gpr rs * s.gpr rt) s

/-- What a division by zero leaves in `hi` and `lo`: `DIV_BY_ZERO` (R169, R175; log entry 10). -/
def State.divideByZero (s : State) : State :=
  match s.par.divByZero with
  | .draw => ((s.setHi (Config.divByZeroHi s.draws)).setLo (Config.divByZeroLo s.draws)).drawn
  | .values h l => (s.setHi h).setLo l

/-- DIV (R169): the quotient is truncated toward zero, the remainder is `a - q * b`. -/
def execDiv (rs rt : RegIdx) (s : State) : Res State :=
  let a := (s.gpr rs).toInt
  let b := (s.gpr rt).toInt
  if b = 0 then .next s.divideByZero.advance
  else
    let q := a.tdiv b
    .next ((s.setHi (BitVec.ofInt 32 (a - q * b))).setLo (BitVec.ofInt 32 q)).advance

/-- DIVU (R170). -/
def execDivu (rs rt : RegIdx) (s : State) : Res State :=
  let a := (s.gpr rs).toNat
  let b := (s.gpr rt).toNat
  if b = 0 then .next s.divideByZero.advance
  else .next ((s.setHi (BitVec.ofNat 32 (a % b))).setLo (BitVec.ofNat 32 (a / b))).advance

/-- MFHI (R171). -/
def execMfhi (rd : RegIdx) (s : State) : Res State := retire rd s.hi s

/-- MFLO (R172). -/
def execMflo (rd : RegIdx) (s : State) : Res State := retire rd s.lo s

/-- MTHI (R173): `lo` is unchanged. -/
def execMthi (rs : RegIdx) (s : State) : Res State := .next (s.setHi (s.gpr rs)).advance

/-- MTLO (R174): `hi` is unchanged. -/
def execMtlo (rs : RegIdx) (s : State) : Res State := .next (s.setLo (s.gpr rs)).advance

end Sys2Proof.Machine
end

