-- ==== Sys2Proof/Machine/Misc.lean ====
section
/-! DEFINITION. Conditional moves, the trap, sign extension, byte swap, bit fields, multiply-accumulate and the no-ops
(47_misc.md). -/

namespace Sys2Proof.Machine

/-- MOVN (R271). -/
def execMovn (rs rt rd : RegIdx) (s : State) : Res State :=
  if s.gpr rt ≠ 0 then retire rd (s.gpr rs) s else .next s.advance

/-- MOVZ (R272). -/
def execMovz (rs rt rd : RegIdx) (s : State) : Res State :=
  if s.gpr rt = 0 then retire rd (s.gpr rs) s else .next s.advance

/-- TEQ (R273): `code` is recorded in the fault and takes no part in the test. -/
def execTeq (rs rt : RegIdx) (code : BitVec 10) (s : State) : Res State :=
  if s.gpr rs = s.gpr rt then raise (.trap code) else .next s.advance

/-- SEB (R274). -/
def execSeb (rt rd : RegIdx) (s : State) : Res State := retire rd (sextByte (s.gpr rt)) s

/-- SEH (R275). -/
def execSeh (rt rd : RegIdx) (s : State) : Res State := retire rd (sextHalf (s.gpr rt)) s

/-- WSBH (R278). -/
def execWsbh (rt rd : RegIdx) (s : State) : Res State := retire rd (swapBytesInHalves (s.gpr rt)) s

/-- A bit-field instruction outside its legal range: `BITFIELD_RANGE` (R276, R277; log entries 11 and 19). -/
def badBitfield (i : Instr) (rt : RegIdx) (s : State) : Res State :=
  match s.par.bitfieldRange with
  | .fault => raise (.badBitfield (encode i))
  | .draw => retire rt (Config.bitfieldDraw s.draws) s.drawn

/-- EXT (R276). -/
def execExt (rs rt : RegIdx) (msbd lsb : BitVec 5) (s : State) : Res State :=
  if extInRange msbd lsb = true then retire rt (extractField (s.gpr rs) msbd lsb) s
  else badBitfield (.ext rs rt msbd lsb) rt s

/-- INS (R277). -/
def execIns (rs rt : RegIdx) (msb lsb : BitVec 5) (s : State) : Res State :=
  if insInRange msb lsb = true then retire rt (insertField (s.gpr rt) (s.gpr rs) msb lsb) s
  else badBitfield (.ins rs rt msb lsb) rt s

/-- MADDU (R279): the sum wraps at 64 bits. -/
def execMaddu (rs rt : RegIdx) (s : State) : Res State :=
  .next (s.setHiLo (s.hiLo + productUnsigned (s.gpr rs) (s.gpr rt))).advance

/-- MSUBU (R283): the difference wraps at 64 bits. -/
def execMsubu (rs rt : RegIdx) (s : State) : Res State :=
  .next (s.setHiLo (s.hiLo - productUnsigned (s.gpr rs) (s.gpr rt))).advance

/-- SYNC (R280): the barrier orders nothing, since every access is performed in program order (20_memory.md R66, R67). -/
def execSync (_stype : BitVec 5) (s : State) : Res State := .next s.advance

/-- SYNCI (R281): no address is computed. -/
def execSynci (_base : RegIdx) (_offset : BitVec 16) (s : State) : Res State := .next s.advance

/-- PREF (R282): no address is computed. -/
def execPref (_base : RegIdx) (_hint : BitVec 5) (_offset : BitVec 16) (s : State) : Res State := .next s.advance

end Sys2Proof.Machine
end

