-- ==== Sys2Proof/Machine/Shift.lean ====
section
/-! DEFINITION. Shifts and rotates (41_alu_shift.md). Every instruction here writes `x[rd]` and advances; none can fault (R150). -/

namespace Sys2Proof.Machine

/-- SLL (R151). -/
def execSll (rt rd : RegIdx) (sa : BitVec 5) (s : State) : Res State := retire rd (s.gpr rt <<< sa.toNat) s

/-- SRL (R152): logical. -/
def execSrl (rt rd : RegIdx) (sa : BitVec 5) (s : State) : Res State := retire rd (s.gpr rt >>> sa.toNat) s

/-- SRA (R153): arithmetic. -/
def execSra (rt rd : RegIdx) (sa : BitVec 5) (s : State) : Res State := retire rd ((s.gpr rt).sshiftRight sa.toNat) s

/-- SLLV (R154). -/
def execSllv (rs rt rd : RegIdx) (s : State) : Res State := retire rd (s.gpr rt <<< (shiftAmount (s.gpr rs)).toNat) s

/-- SRLV (R155). -/
def execSrlv (rs rt rd : RegIdx) (s : State) : Res State := retire rd (s.gpr rt >>> (shiftAmount (s.gpr rs)).toNat) s

/-- SRAV (R156). -/
def execSrav (rs rt rd : RegIdx) (s : State) : Res State :=
  retire rd ((s.gpr rt).sshiftRight (shiftAmount (s.gpr rs)).toNat) s

/-- ROTR (R157). -/
def execRotr (rt rd : RegIdx) (sa : BitVec 5) (s : State) : Res State := retire rd (rotr (s.gpr rt) sa.toNat) s

/-- ROTRV (R158). -/
def execRotrv (rs rt rd : RegIdx) (s : State) : Res State := retire rd (rotr (s.gpr rt) (shiftAmount (s.gpr rs)).toNat) s

end Sys2Proof.Machine
end

