-- ==== Sys2Proof/Machine/Syscall.lean ====
section
/-! DEFINITION. SYSCALL and the 40 supported system calls (46_syscall.md). The services other than HALT act through the environment
oracle (R248): what they compute is outside the spec's scope (00_scope.md R4 (b)). -/

namespace Sys2Proof.Machine

/-- The 40 supported system calls, in the source's order (R249). -/
inductive Service where
  /-- SYSHINTLEN: "Return length of current input data." -/
  | syshintlen
  /-- SYSHINTREAD: "Read current input data." -/
  | syshintread
  /-- SYSVERIFY: "Verify pre-compile program." -/
  | sysverify
  /-- HALT: "Halts the program." -/
  | halt
  /-- WRITE: "Write to the output buffer." -/
  | write
  /-- ENTER_UNCONSTRAINED: "Enter unconstrained block." -/
  | enterUnconstrained
  /-- EXIT_UNCONSTRAINED: "Exit unconstrained block." -/
  | exitUnconstrained
  /-- SHA_EXTEND: "Executes the SHA_EXTEND precompile." -/
  | shaExtend
  /-- SHA_COMPRESS: "Executes the SHA_COMPRESS precompile." -/
  | shaCompress
  /-- ED_ADD: "Executes the ED_ADD precompile." -/
  | edAdd
  /-- ED_DECOMPRESS: "Executes the ED_DECOMPRESS precompile." -/
  | edDecompress
  /-- KECCAK_SPONGE: "Executes the KECCAK_SPONGE precompile." -/
  | keccakSponge
  /-- SECP256K1_ADD: "Executes the SECP256K1_ADD precompile." -/
  | secp256k1Add
  /-- SECP256K1_DOUBLE: "Executes the SECP256K1_DOUBLE precompile." -/
  | secp256k1Double
  /-- SECP256K1_DECOMPRESS: "Executes the SECP256K1_DECOMPRESS precompile." -/
  | secp256k1Decompress
  /-- BN254_ADD: "Executes the BN254_ADD precompile." -/
  | bn254Add
  /-- BN254_DOUBLE: "Executes the BN254_DOUBLE precompile." -/
  | bn254Double
  /-- COMMIT: "Executes the COMMIT precompile." -/
  | commit
  /-- COMMIT_DEFERRED_PROOFS: "Executes the COMMIT_DEFERRED_PROOFS precompile." -/
  | commitDeferredProofs
  /-- VERIFY_ZKM_PROOF: "Executes the VERIFY_ZKM_PROOF precompile." -/
  | verifyZkmProof
  /-- BLS12381_DECOMPRESS: "Executes the BLS12381_DECOMPRESS precompile." -/
  | bls12381Decompress
  /-- UINT256_MUL: "Executes the UINT256_MUL precompile." -/
  | uint256Mul
  /-- U256XU2048_MUL: "Executes the U256XU2048_MUL precompile." -/
  | u256xu2048Mul
  /-- BLS12381_ADD: "Executes the BLS12381_ADD precompile." -/
  | bls12381Add
  /-- BLS12381_DOUBLE: "Executes the BLS12381_DOUBLE precompile." -/
  | bls12381Double
  /-- BLS12381_FP_ADD: "Executes the BLS12381_FP_ADD precompile." -/
  | bls12381FpAdd
  /-- BLS12381_FP_SUB: "Executes the BLS12381_FP_SUB precompile." -/
  | bls12381FpSub
  /-- BLS12381_FP_MUL: "Executes the BLS12381_FP_MUL precompile." -/
  | bls12381FpMul
  /-- BLS12381_FP2_ADD: "Executes the BLS12381_FP2_ADD precompile." -/
  | bls12381Fp2Add
  /-- BLS12381_FP2_SUB: "Executes the BLS12381_FP2_SUB precompile." -/
  | bls12381Fp2Sub
  /-- BLS12381_FP2_MUL: "Executes the BLS12381_FP2_MUL precompile." -/
  | bls12381Fp2Mul
  /-- BN254_FP_ADD: "Executes the BN254_FP_ADD precompile." -/
  | bn254FpAdd
  /-- BN254_FP_SUB: "Executes the BN254_FP_SUB precompile." -/
  | bn254FpSub
  /-- BN254_FP_MUL: "Executes the BN254_FP_MUL precompile." -/
  | bn254FpMul
  /-- BN254_FP2_ADD: "Executes the BN254_FP2_ADD precompile." -/
  | bn254Fp2Add
  /-- BN254_FP2_SUB: "Executes the BN254_FP2_SUB precompile." -/
  | bn254Fp2Sub
  /-- BN254_FP2_MUL: "Executes the BN254_FP2_MUL precompile." -/
  | bn254Fp2Mul
  /-- SECP256R1_ADD: "Executes the SECP256R1_ADD precompile." -/
  | secp256r1Add
  /-- SECP256R1_DOUBLE: "Executes the SECP256R1_DOUBLE precompile." -/
  | secp256r1Double
  /-- SECP256R1_DECOMPRESS: "Executes the SECP256R1_DECOMPRESS precompile." -/
  | secp256r1Decompress
  deriving DecidableEq, Repr

/-- The number of a system call (R249). -/
def serviceNumber : Service → Word
  | .syshintlen => 0x000000F0
  | .syshintread => 0x000000F1
  | .sysverify => 0x000000F2
  | .halt => 0x00000000
  | .write => 0x00000002
  | .enterUnconstrained => 0x00000003
  | .exitUnconstrained => 0x00000004
  | .shaExtend => 0x00300105
  | .shaCompress => 0x00010106
  | .edAdd => 0x00010107
  | .edDecompress => 0x00000108
  | .keccakSponge => 0x00010109
  | .secp256k1Add => 0x0001010A
  | .secp256k1Double => 0x0000010B
  | .secp256k1Decompress => 0x0000010C
  | .bn254Add => 0x0001010E
  | .bn254Double => 0x0000010F
  | .commit => 0x00000010
  | .commitDeferredProofs => 0x0000001A
  | .verifyZkmProof => 0x0000001B
  | .bls12381Decompress => 0x0000011C
  | .uint256Mul => 0x0001011D
  | .u256xu2048Mul => 0x0001012F
  | .bls12381Add => 0x0001011E
  | .bls12381Double => 0x0000011F
  | .bls12381FpAdd => 0x00010120
  | .bls12381FpSub => 0x00010121
  | .bls12381FpMul => 0x00010122
  | .bls12381Fp2Add => 0x00010123
  | .bls12381Fp2Sub => 0x00010124
  | .bls12381Fp2Mul => 0x00010125
  | .bn254FpAdd => 0x00010126
  | .bn254FpSub => 0x00010127
  | .bn254FpMul => 0x00010128
  | .bn254Fp2Add => 0x00010129
  | .bn254Fp2Sub => 0x0001012A
  | .bn254Fp2Mul => 0x0001012B
  | .secp256r1Add => 0x0001012C
  | .secp256r1Double => 0x0000012D
  | .secp256r1Decompress => 0x0000012E

/-- The list of R249. -/
def services : List Service := [
  .syshintlen, .syshintread, .sysverify, .halt, .write,
  .enterUnconstrained, .exitUnconstrained, .shaExtend, .shaCompress, .edAdd,
  .edDecompress, .keccakSponge, .secp256k1Add, .secp256k1Double, .secp256k1Decompress,
  .bn254Add, .bn254Double, .commit, .commitDeferredProofs, .verifyZkmProof,
  .bls12381Decompress, .uint256Mul, .u256xu2048Mul, .bls12381Add, .bls12381Double,
  .bls12381FpAdd, .bls12381FpSub, .bls12381FpMul, .bls12381Fp2Add, .bls12381Fp2Sub,
  .bls12381Fp2Mul, .bn254FpAdd, .bn254FpSub, .bn254FpMul, .bn254Fp2Add,
  .bn254Fp2Sub, .bn254Fp2Mul, .secp256r1Add, .secp256r1Double, .secp256r1Decompress]

/-- The system call with a number, compared on all 32 bits (R247). -/
def serviceOf (n : Word) : Option Service := services.find? fun v => serviceNumber v == n

/-- A service other than HALT (R248): the environment's next reply is its effect; where there is none, where it refuses, where it
answers another call, or where it would write a byte that is not valid for `store`, the service is refused (log entries 15
and 17). -/
def serve (call : SyscallRequest) (s : State) : Res State :=
  match s.replies.head? with
  | some (.answer request ret writes after) =>
    if request = call ∧ legalWrites s writes = true then
      .next (((s.served writes after).setReturn ret).clearReservation).advance
    else raise (.syscallRefused call.number)
  | _ => raise (.syscallRefused call.number)

/-- SYSCALL (R245), dispatched by R247; `code` is ignored. -/
def execSyscall (_code : BitVec 20) (s : State) : Res State :=
  let call := s.request
  match serviceOf call.number with
  | some .halt => .next (s.halt call.arg0)
  | some _ => serve call s
  | none => raise (.unknownSyscall call.number)

end Sys2Proof.Machine
end

