-- ==== Sys2Proof/Machine/Dispatch.lean ====
section
/-! DEFINITION. One arm per instruction (30_encoding.md R86), each one call of the instruction's own meaning. -/

namespace Sys2Proof.Machine

/-- The meaning of an instruction in a state: step (4) and (5) of 00_scope.md R13. -/
def exec (i : Instr) (s : State) : Host.Outcome State Fault Refusal :=
  match i with
  | .add rs rt rd => Sys2Proof.Machine.execAdd rs rt rd s
  | .addi rs rt imm => Sys2Proof.Machine.execAddi rs rt imm s
  | .addiu rs rt imm => Sys2Proof.Machine.execAddiu rs rt imm s
  | .addu rs rt rd => Sys2Proof.Machine.execAddu rs rt rd s
  | .and rs rt rd => Sys2Proof.Machine.execAnd rs rt rd s
  | .andi rs rt imm => Sys2Proof.Machine.execAndi rs rt imm s
  | .beq rs rt offset => Sys2Proof.Machine.execBeq rs rt offset s
  | .bgez rs offset => Sys2Proof.Machine.execBgez rs offset s
  | .bgtz rs offset => Sys2Proof.Machine.execBgtz rs offset s
  | .blez rs offset => Sys2Proof.Machine.execBlez rs offset s
  | .bltz rs offset => Sys2Proof.Machine.execBltz rs offset s
  | .bne rs rt offset => Sys2Proof.Machine.execBne rs rt offset s
  | .clo rs rt rd => Sys2Proof.Machine.execClo rs rt rd s
  | .clz rs rt rd => Sys2Proof.Machine.execClz rs rt rd s
  | .div rs rt => Sys2Proof.Machine.execDiv rs rt s
  | .divu rs rt => Sys2Proof.Machine.execDivu rs rt s
  | .j instrIndex => Sys2Proof.Machine.execJ instrIndex s
  | .jal instrIndex => Sys2Proof.Machine.execJal instrIndex s
  | .jalr rs rd hint => Sys2Proof.Machine.execJalr rs rd hint s
  | .jr rs hint => Sys2Proof.Machine.execJr rs hint s
  | .lb base rt offset => Sys2Proof.Machine.execLb base rt offset s
  | .lbu base rt offset => Sys2Proof.Machine.execLbu base rt offset s
  | .lh base rt offset => Sys2Proof.Machine.execLh base rt offset s
  | .lhu base rt offset => Sys2Proof.Machine.execLhu base rt offset s
  | .ll base rt offset => Sys2Proof.Machine.execLl base rt offset s
  | .lui rt imm => Sys2Proof.Machine.execLui rt imm s
  | .lw base rt offset => Sys2Proof.Machine.execLw base rt offset s
  | .lwl base rt offset => Sys2Proof.Machine.execLwl base rt offset s
  | .lwr base rt offset => Sys2Proof.Machine.execLwr base rt offset s
  | .mfhi rd => Sys2Proof.Machine.execMfhi rd s
  | .mflo rd => Sys2Proof.Machine.execMflo rd s
  | .movn rs rt rd => Sys2Proof.Machine.execMovn rs rt rd s
  | .movz rs rt rd => Sys2Proof.Machine.execMovz rs rt rd s
  | .mthi rs => Sys2Proof.Machine.execMthi rs s
  | .mtlo rs => Sys2Proof.Machine.execMtlo rs s
  | .mul rs rt rd => Sys2Proof.Machine.execMul rs rt rd s
  | .mult rs rt => Sys2Proof.Machine.execMult rs rt s
  | .multu rs rt => Sys2Proof.Machine.execMultu rs rt s
  | .nor rs rt rd => Sys2Proof.Machine.execNor rs rt rd s
  | .or rs rt rd => Sys2Proof.Machine.execOr rs rt rd s
  | .ori rs rt imm => Sys2Proof.Machine.execOri rs rt imm s
  | .sb base rt offset => Sys2Proof.Machine.execSb base rt offset s
  | .sc base rt offset => Sys2Proof.Machine.execSc base rt offset s
  | .sh base rt offset => Sys2Proof.Machine.execSh base rt offset s
  | .sll rt rd sa => Sys2Proof.Machine.execSll rt rd sa s
  | .sllv rs rt rd => Sys2Proof.Machine.execSllv rs rt rd s
  | .slt rs rt rd => Sys2Proof.Machine.execSlt rs rt rd s
  | .slti rs rt imm => Sys2Proof.Machine.execSlti rs rt imm s
  | .sltiu rs rt imm => Sys2Proof.Machine.execSltiu rs rt imm s
  | .sltu rs rt rd => Sys2Proof.Machine.execSltu rs rt rd s
  | .sra rt rd sa => Sys2Proof.Machine.execSra rt rd sa s
  | .srav rs rt rd => Sys2Proof.Machine.execSrav rs rt rd s
  | .sync stype => Sys2Proof.Machine.execSync stype s
  | .srl rt rd sa => Sys2Proof.Machine.execSrl rt rd sa s
  | .srlv rs rt rd => Sys2Proof.Machine.execSrlv rs rt rd s
  | .sub rs rt rd => Sys2Proof.Machine.execSub rs rt rd s
  | .subu rs rt rd => Sys2Proof.Machine.execSubu rs rt rd s
  | .sw base rt offset => Sys2Proof.Machine.execSw base rt offset s
  | .swl base rt offset => Sys2Proof.Machine.execSwl base rt offset s
  | .swr base rt offset => Sys2Proof.Machine.execSwr base rt offset s
  | .syscall code => Sys2Proof.Machine.execSyscall code s
  | .xor rs rt rd => Sys2Proof.Machine.execXor rs rt rd s
  | .xori rs rt imm => Sys2Proof.Machine.execXori rs rt imm s
  | .bal offset => Sys2Proof.Machine.execBal offset s
  | .synci base offset => Sys2Proof.Machine.execSynci base offset s
  | .pref base hint offset => Sys2Proof.Machine.execPref base hint offset s
  | .teq rs rt code => Sys2Proof.Machine.execTeq rs rt code s
  | .rotr rt rd sa => Sys2Proof.Machine.execRotr rt rd sa s
  | .rotrv rs rt rd => Sys2Proof.Machine.execRotrv rs rt rd s
  | .wsbh rt rd => Sys2Proof.Machine.execWsbh rt rd s
  | .ext rs rt msbd lsb => Sys2Proof.Machine.execExt rs rt msbd lsb s
  | .seh rt rd => Sys2Proof.Machine.execSeh rt rd s
  | .seb rt rd => Sys2Proof.Machine.execSeb rt rd s
  | .ins rs rt msb lsb => Sys2Proof.Machine.execIns rs rt msb lsb s
  | .maddu rs rt => Sys2Proof.Machine.execMaddu rs rt s
  | .msubu rs rt => Sys2Proof.Machine.execMsubu rs rt s

end Sys2Proof.Machine
end

