-- ==== Sys2Proof/Machine/Fetch.lean ====
section
/-! DEFINITION. Instruction fetch and decode: steps (2) and (3) of 00_scope.md R13. -/

namespace Sys2Proof.Machine

/-- Instruction fetch at `pc` (20_memory.md R58), in the byte order of data (R54). -/
def fetchWord (s : State) : Res Word := memRead s .fetch s.pc 4

/-- Decode; a word that matches no row raises `ReservedInstruction` (30_encoding.md R110). -/
def decodeFetched (w : Word) : Res Instr :=
  match decodeWord w with
  | .instr i => .next i
  | .rejected _ => raise (.reservedInstruction w)

/-- The instruction at `pc`. -/
def fetchInstr (s : State) : Res Instr := andThen (fetchWord s) decodeFetched

/-- The start of `withFetchWord`: the four bytes from `pc` become valid for `fetch`, if they are not. -/
def State.allowFetch (s : State) : State :=
  if s.validRange .fetch s.pc 4 = true then s
  else
    { s with
      par := { s.par with memMap := ⟨s.pc.toNat, 4, true, false, false⟩ :: s.par.memMap } }

/-- A word placed in memory where the next instruction is fetched, in the byte order of the state. -/
def State.placeWord (s : State) (w : Word) : State :=
  { s with mem := Memory.writeBytes s.mem s.pc (arrange s.par.byteOrder (toLanes w)) }

end Sys2Proof.Machine
end

