-- ==== Sys2Proof/Machine/Step.lean ====
section
/-! DEFINITION. One step of the machine (00_scope.md R13). -/

namespace Sys2Proof.Machine

/-- One step: if the outcome is `running`, the instruction at `pc` is fetched, decoded and executed (R13); otherwise there is no
step (R14). -/
def step (s : State) : Host.Outcome State Fault Refusal :=
  match s.outcome with
  | .running => andThen (fetchInstr s) fun i => exec i s
  | _ => .refused .runEnded

/-- The state with an instruction of the opcode table stored where `step` fetches its next instruction, and those four bytes
valid for `fetch`: the load of a program from outside the machine (70_reset_and_hazards.md R341; log entry 7). -/
def State.withFetchWord (s : State) (nbits w : Nat) : State :=
  s.allowFetch.placeWord (BitVec.ofNat 32 (w % 2 ^ nbits))

end Sys2Proof.Machine
end

