-- ==== Sys2Proof/Safety.lean ====
section
/-! DEFINITION. What counts as a run and as a safe one (00_scope.md R14, 60_exceptions.md R300): a claim about a program takes
"no fault" as its premise or proves it. -/

namespace Sys2Proof.Machine

/-- The state after `n` steps in the terms of R14: a fault and a halt are outcomes of the state, and the state then stays. It
stays too where the model refuses a step (DESIGN CHOICE, log entry 22): a claim about a program takes `faultFree` beside it. -/
def runFor : Nat → State → State
  | 0, s => s
  | n + 1, s => runFor n (s.settle (step s))

/-- The run still goes on, or ended by HALT: it has not ended in a fault. -/
def State.notFaulted (s : State) : Bool :=
  match s.outcome with
  | .fault _ => false
  | _ => true

/-- The run ended by HALT. -/
def State.isHalted (s : State) : Bool :=
  match s.outcome with
  | .halted _ => true
  | _ => false

/-- No fault in the first `n` steps, each of which has a next state unless HALT had ended the run. A run in which the model
refuses a step is not fault-free: R14 leaves that open, and it is a DESIGN CHOICE (log entry 22). -/
def faultFree : Nat → State → Bool
  | 0, s => s.notFaulted
  | n + 1, s =>
    match step s with
    | .next t => faultFree n t
    | .fault _ => false
    | .refused _ => s.isHalted

/-- HALT with a code within `n` steps: the only end of a run that is not a fault (70_reset_and_hazards.md R342). -/
def haltsWith (n : Nat) (s : State) (code : Word) : Prop := (runFor n s).outcome = .halted code

/-- The state invariant: the memory is in canonical form, register 0's storage holds 0 (10_state.md R23), no byte is valid for both
`fetch` and `store` (20_memory.md R69), a reservation is word-aligned (43_load_store.md R198), and outside a delay slot
`npc = pc + 4` (10_state.md R29). -/
def State.wf (s : State) : Bool :=
  Memory.wf s.mem && s.regs[0] == 0 && Params.disjoint s.par && (!s.llValid || s.llAddr.toNat % 4 == 0)
    && (s.ds || s.npc == s.pc + 4)

end Sys2Proof.Machine
end

