-- ==== Sys2Proof/Certificates/Slice0/Obligations.lean ====
section
/-! DEFINITION. The statements for the provers. The first part names the frames they share; each is written over the fields of the
state and the read of one byte, not over the model's own updates. Where a statement rests on a decision of the spec
(92_eei_decisions.md) or on a log entry, its docstring says so. What `x[r] <- v` does for `r = 0` and what `advance` does are the
spec's decisions D3 and D4 throughout. -/

namespace Sys2Proof.Spec

open Sys2Proof.Machine

/-! ## Frames -/

/-- No general register changes. -/
def RegsKept (s t : State) : Prop := ∀ q : RegIdx, t.gpr q = s.gpr q

/-- `x[r]` becomes `v`, no other general register changes, and register 0 does not (R9, R23). -/
def RegWritten (r : RegIdx) (v : Word) (s t : State) : Prop :=
  ∀ q : RegIdx, t.gpr q = if q = r ∧ q ≠ 0 then v else s.gpr q

/-- `hi` and `lo` keep their values. -/
def HiLoKept (s t : State) : Prop := t.hi = s.hi ∧ t.lo = s.lo

/-- The reservation stays as it is. -/
def ReservationKept (s t : State) : Prop := t.llValid = s.llValid ∧ t.llAddr = s.llAddr

/-- Every address reads as before. -/
def MemoryKept (s t : State) : Prop := ∀ a : Nat, Memory.read t.mem a = Memory.read s.mem a

/-- The outcome, the environment and the parameters stay as they are. -/
def HostKept (s t : State) : Prop :=
  t.outcome = s.outcome ∧ t.env = s.env ∧ t.replies = s.replies ∧ t.par = s.par

/-- As `HostKept`, and no free value is drawn. -/
def RestKept (s t : State) : Prop := HostKept s t ∧ t.draws = s.draws

/-- The program counters after `advance` (R12). -/
def Advanced (s t : State) : Prop := t.pc = s.npc ∧ t.npc = s.npc + 4 ∧ t.ds = false

/-- The instruction writes `v` to `x[r]`, advances, and does nothing else. -/
def WritesReg (r : RegIdx) (v : Word) (s t : State) : Prop :=
  RegWritten r v s t ∧ HiLoKept s t ∧ ReservationKept s t ∧ MemoryKept s t ∧ RestKept s t ∧ Advanced s t

/-- The instruction advances and does nothing else. -/
def OnlyAdvances (s t : State) : Prop :=
  RegsKept s t ∧ HiLoKept s t ∧ ReservationKept s t ∧ MemoryKept s t ∧ RestKept s t ∧ Advanced s t

/-- The instruction leaves `h` in `hi` and `l` in `lo`, advances, and does nothing else, but for the draw counter. -/
def WritesHiLo (h l : Word) (s t : State) : Prop :=
  t.hi = h ∧ t.lo = l ∧ RegsKept s t ∧ ReservationKept s t ∧ MemoryKept s t ∧ HostKept s t ∧ Advanced s t

/-- The `n` bytes from `start` become `f 0`, `f 1`, …, every other byte keeps its value, and the reservation is lost exactly
if one of the bytes lies in the reserved word (R57, R34). -/
def BytesStored (start : Word) (n : Nat) (f : Nat → Byte) (s t : State) : Prop :=
  (∀ i < n, Memory.read t.mem (start + BitVec.ofNat 32 i).toNat = some (f i))
    ∧ (∀ c : Nat, (∀ i < n, (start + BitVec.ofNat 32 i).toNat ≠ c) → Memory.read t.mem c = Memory.read s.mem c)
    ∧ t.llAddr = s.llAddr
    ∧ (t.llValid = true ↔ s.llValid = true ∧ ∀ i < n, alignedWord (start + BitVec.ofNat 32 i) ≠ alignedWord s.llAddr)

/-- The instruction stores those bytes, advances, and does nothing else. -/
def Stores (start : Word) (n : Nat) (f : Nat → Byte) (s t : State) : Prop :=
  BytesStored start n f s t ∧ RegsKept s t ∧ HiLoKept s t ∧ RestKept s t ∧ Advanced s t

/-- A control transfer: where control goes after the delay slot, and nothing else but the general registers, which `regs`
speaks of (R12, R30). -/
def Transfers (regs : Prop) (next : Word) (s t : State) : Prop :=
  regs ∧ t.pc = s.npc ∧ t.npc = next ∧ t.ds = true ∧ HiLoKept s t ∧ ReservationKept s t ∧ MemoryKept s t ∧ RestKept s t

/-! ## Bytes and addresses -/

/-- Byte `k` of a word, 0 the least significant: `v[8k+7:8k]`. -/
def byteOf (v : Word) (k : Nat) : Byte := v.extractLsb' (8 * k) 8

/-- The halfword whose bytes stand at `a` and `a + 1` (R53). -/
def halfword (order : ByteOrder) (b0 b1 : Byte) : BitVec 16 :=
  match order with
  | .little => b1 ++ b0
  | .big => b0 ++ b1

/-- The word whose bytes stand at `a` to `a + 3` (R53). -/
def word (order : ByteOrder) (b0 b1 b2 b3 : Byte) : Word :=
  match order with
  | .little => b3 ++ b2 ++ b1 ++ b0
  | .big => b0 ++ b1 ++ b2 ++ b3

/-- One claim for each byte order. -/
def ByOrder (order : ByteOrder) (little big : Prop) : Prop :=
  match order with
  | .little => little
  | .big => big

/-- The byte of an `n`-byte value that goes to the address `a + i` (R57). -/
def storedByte (order : ByteOrder) (n : Nat) (v : Word) (i : Nat) : Byte :=
  match order with
  | .little => byteOf v i
  | .big => byteOf v (n - 1 - i)

/-- The `n` bytes from `a` are valid for a kind of access (R64). -/
def ValidBytes (s : State) (kind : AccessKind) (a : Word) (n : Nat) : Prop :=
  ∀ i < n, Params.valid s.par kind (a + BitVec.ofNat 32 i) = true

/-- The byte at `a + i` is `b`. -/
def ByteAt (s : State) (a : Word) (i : Nat) (b : Byte) : Prop :=
  Memory.read s.mem (a + BitVec.ofNat 32 i).toNat = some b

/-- The number and the two arguments of a system call (R245, R246). -/
def requestOf (s : State) : SyscallRequest :=
  ⟨s.gpr s.par.syscallNumReg, s.gpr s.par.syscallArg0Reg, s.gpr s.par.syscallArg1Reg⟩

/-- `addr[1:0]`. -/
def lowBits (addr : Word) : Nat := addr.toNat % 4

/-! ## The tables of the spec -/

/-- The eleven control transfers (R217). -/
def controlTransfer : Instr → Bool
  | .beq .. | .bne .. | .bgez .. | .bgtz .. | .blez .. | .bltz .. => true
  | .bal .. | .j .. | .jal .. | .jr .. | .jalr .. => true
  | _ => false

/-- The general registers an instruction may write (the table of R88, and R246 for SYSCALL). -/
def destinations (p : Params) : Instr → List RegIdx
  | .add _ _ rd | .addu _ _ rd | .sub _ _ rd | .subu _ _ rd | .and _ _ rd | .or _ _ rd | .xor _ _ rd | .nor _ _ rd => [rd]
  | .slt _ _ rd | .sltu _ _ rd | .mul _ _ rd | .clz _ _ rd | .clo _ _ rd | .movn _ _ rd | .movz _ _ rd => [rd]
  | .addi _ rt _ | .addiu _ rt _ | .slti _ rt _ | .sltiu _ rt _ | .andi _ rt _ | .ori _ rt _ | .xori _ rt _ => [rt]
  | .lui rt _ => [rt]
  | .sll _ rd _ | .srl _ rd _ | .sra _ rd _ | .rotr _ rd _ => [rd]
  | .sllv _ _ rd | .srlv _ _ rd | .srav _ _ rd | .rotrv _ _ rd => [rd]
  | .mfhi rd | .mflo rd => [rd]
  | .lb _ rt _ | .lbu _ rt _ | .lh _ rt _ | .lhu _ rt _ | .lw _ rt _ | .ll _ rt _ | .lwl _ rt _ | .lwr _ rt _ => [rt]
  | .sc _ rt _ => [rt]
  | .bal _ | .jal _ => [31]
  | .jalr _ rd _ => [rd]
  | .seb _ rd | .seh _ rd | .wsbh _ rd => [rd]
  | .ext _ rt _ _ | .ins _ rt _ _ => [rt]
  | .syscall _ => [p.syscallRetReg]
  | .mult .. | .multu .. | .div .. | .divu .. | .maddu .. | .msubu .. | .mthi .. | .mtlo .. => []
  | .sb .. | .sh .. | .sw .. | .swl .. | .swr .. => []
  | .beq .. | .bne .. | .bgez .. | .bgtz .. | .blez .. | .bltz .. | .j .. | .jr .. => []
  | .teq .. | .sync .. | .synci .. | .pref .. => []

/-- The instructions that may write `hi` (R27). -/
def writesHi : Instr → Bool
  | .div .. | .divu .. | .mult .. | .multu .. | .maddu .. | .msubu .. | .mthi .. => true
  | _ => false

/-- The instructions that may write `lo` (R27). -/
def writesLo : Instr → Bool
  | .div .. | .divu .. | .mult .. | .multu .. | .maddu .. | .msubu .. | .mtlo .. => true
  | _ => false

/-- The instructions that may change memory: the stores, SC and SYSCALL (R51). -/
def writesMemory : Instr → Bool
  | .sb .. | .sh .. | .sw .. | .swl .. | .swr .. | .sc .. | .syscall .. => true
  | _ => false

/-- The instructions that leave a reservation alone: all but LL, the stores, SC and SYSCALL (R34). -/
def keepsReservation : Instr → Bool
  | .ll .. => false
  | i => !writesMemory i

/-- The instructions of a list execute one after another from `s` to `t`. -/
def Executes : List Instr → State → State → Prop
  | [], s, t => t = s
  | i :: rest, s, t => ∃ u, exec i s = .next u ∧ Executes rest u t

/-- The 40 system calls with their numbers, as the spec tabulates them (R249). -/
def syscallTable : List (Service × Word) := [
  (.syshintlen, 0x000000F0), (.syshintread, 0x000000F1), (.sysverify, 0x000000F2), (.halt, 0x00000000),
  (.write, 0x00000002), (.enterUnconstrained, 0x00000003), (.exitUnconstrained, 0x00000004), (.shaExtend, 0x00300105),
  (.shaCompress, 0x00010106), (.edAdd, 0x00010107), (.edDecompress, 0x00000108), (.keccakSponge, 0x00010109),
  (.secp256k1Add, 0x0001010A), (.secp256k1Double, 0x0000010B), (.secp256k1Decompress, 0x0000010C),
  (.bn254Add, 0x0001010E), (.bn254Double, 0x0000010F), (.commit, 0x00000010), (.commitDeferredProofs, 0x0000001A),
  (.verifyZkmProof, 0x0000001B), (.bls12381Decompress, 0x0000011C), (.uint256Mul, 0x0001011D),
  (.u256xu2048Mul, 0x0001012F), (.bls12381Add, 0x0001011E), (.bls12381Double, 0x0000011F),
  (.bls12381FpAdd, 0x00010120), (.bls12381FpSub, 0x00010121), (.bls12381FpMul, 0x00010122),
  (.bls12381Fp2Add, 0x00010123), (.bls12381Fp2Sub, 0x00010124), (.bls12381Fp2Mul, 0x00010125),
  (.bn254FpAdd, 0x00010126), (.bn254FpSub, 0x00010127), (.bn254FpMul, 0x00010128), (.bn254Fp2Add, 0x00010129),
  (.bn254Fp2Sub, 0x0001012A), (.bn254Fp2Mul, 0x0001012B), (.secp256r1Add, 0x0001012C),
  (.secp256r1Double, 0x0000012D), (.secp256r1Decompress, 0x0000012E)]

end Sys2Proof.Spec

open Sys2Proof Sys2Proof.Machine Sys2Proof.Spec

/-! ## Add, subtract, compare, logic, count (40_alu_arith_logic.md) -/

/-- R122, R124, R126: the sum or difference modulo 2^32, for every operand, register 0 included; the encodings; no fault; each is
identical to its other form in every state. -/
def Obligations.UnsignedAddAndSubtractWrap : Prop :=
  (∀ (rs rt rd : RegIdx),
    decodeWord (0b000000#6 ++ rs ++ rt ++ rd ++ 0b00000#5 ++ 0b100001#6) = .instr (.addu rs rt rd)
      ∧ decodeWord (0b000000#6 ++ rs ++ rt ++ rd ++ 0b00000#5 ++ 0b100011#6) = .instr (.subu rs rt rd))
  ∧ (∀ (rs rt : RegIdx) (imm : BitVec 16), decodeWord (0b001001#6 ++ rs ++ rt ++ imm) = .instr (.addiu rs rt imm))
  ∧ (∀ (rs rt rd : RegIdx) (s : State),
    (∃ t, exec (.addu rs rt rd) s = .next t
        ∧ WritesReg rd (BitVec.ofNat 32 ((s.gpr rs).toNat + (s.gpr rt).toNat)) s t)
      ∧ exec (.addu rs rt rd) s = exec (.add rs rt rd) s)
  ∧ (∀ (rs rt rd : RegIdx) (s : State),
    (∃ t, exec (.subu rs rt rd) s = .next t
        ∧ WritesReg rd (BitVec.ofInt 32 ((s.gpr rs).toNat - (s.gpr rt).toNat)) s t)
      ∧ exec (.subu rs rt rd) s = exec (.sub rs rt rd) s)
  ∧ (∀ (rs rt : RegIdx) (imm : BitVec 16) (s : State),
    (∃ t, exec (.addiu rs rt imm) s = .next t ∧ WritesReg rt (BitVec.ofInt 32 ((s.gpr rs).toNat + imm.toInt)) s t)
      ∧ exec (.addiu rs rt imm) s = exec (.addi rs rt imm) s)

/-- ADD, ADDI and SUB wrap and never fault, also on signed overflow: the spec's decision D9. -/
def Obligations.AddAddiSubNeverTrap : Prop :=
  (∀ (rs rt rd : RegIdx) (s : State), ∃ t, exec (.add rs rt rd) s = .next t
    ∧ WritesReg rd (BitVec.ofInt 32 ((s.gpr rs).toInt + (s.gpr rt).toInt)) s t)
  ∧ (∀ (rs rt rd : RegIdx) (s : State), ∃ t, exec (.sub rs rt rd) s = .next t
    ∧ WritesReg rd (BitVec.ofInt 32 ((s.gpr rs).toInt - (s.gpr rt).toInt)) s t)
  ∧ (∀ (rs rt : RegIdx) (imm : BitVec 16) (s : State), ∃ t, exec (.addi rs rt imm) s = .next t
    ∧ WritesReg rt (BitVec.ofInt 32 ((s.gpr rs).toInt + imm.toInt)) s t)

/-- R131, R132, R133, R135, R136, R137, R138: each bit of the result, the encodings, and no fault. The immediate of ANDI, ORI and
XORI has zeros above bit 15; LUI puts it in the upper half over zeros. -/
def Obligations.LogicAndLuiActBitByBit : Prop :=
  (∀ (rs rt rd : RegIdx),
    decodeWord (0b000000#6 ++ rs ++ rt ++ rd ++ 0b00000#5 ++ 0b100100#6) = .instr (.and rs rt rd)
      ∧ decodeWord (0b000000#6 ++ rs ++ rt ++ rd ++ 0b00000#5 ++ 0b100101#6) = .instr (.or rs rt rd)
      ∧ decodeWord (0b000000#6 ++ rs ++ rt ++ rd ++ 0b00000#5 ++ 0b100110#6) = .instr (.xor rs rt rd))
  ∧ (∀ (rs rt : RegIdx) (imm : BitVec 16),
    decodeWord (0b001100#6 ++ rs ++ rt ++ imm) = .instr (.andi rs rt imm)
      ∧ decodeWord (0b001101#6 ++ rs ++ rt ++ imm) = .instr (.ori rs rt imm)
      ∧ decodeWord (0b001110#6 ++ rs ++ rt ++ imm) = .instr (.xori rs rt imm)
      ∧ decodeWord (0b001111#6 ++ 0b00000#5 ++ rt ++ imm) = .instr (.lui rt imm))
  ∧ (∀ (rs : RegIdx) (rt : RegIdx) (imm : BitVec 16), rs ≠ 0 →
    decodeWord (0b001111#6 ++ rs ++ rt ++ imm) = .rejected (.reservedInstruction (0b001111#6 ++ rs ++ rt ++ imm))
      ∧ decodeFetched (0b001111#6 ++ rs ++ rt ++ imm)
        = .fault (.reservedInstruction (0b001111#6 ++ rs ++ rt ++ imm)))
  ∧ (∀ (rs rt rd : RegIdx) (s : State),
    (∃ t v, exec (.and rs rt rd) s = .next t ∧ WritesReg rd v s t
        ∧ ∀ i < 32, v.getLsbD i = ((s.gpr rs).getLsbD i && (s.gpr rt).getLsbD i))
      ∧ (∃ t v, exec (.or rs rt rd) s = .next t ∧ WritesReg rd v s t
        ∧ ∀ i < 32, v.getLsbD i = ((s.gpr rs).getLsbD i || (s.gpr rt).getLsbD i))
      ∧ (∃ t v, exec (.xor rs rt rd) s = .next t ∧ WritesReg rd v s t
        ∧ ∀ i < 32, v.getLsbD i = ((s.gpr rs).getLsbD i != (s.gpr rt).getLsbD i)))
  ∧ (∀ (rs rt : RegIdx) (imm : BitVec 16) (s : State),
    (∃ t v, exec (.andi rs rt imm) s = .next t ∧ WritesReg rt v s t
        ∧ ∀ i < 32, v.getLsbD i = ((s.gpr rs).getLsbD i && (decide (i < 16) && imm.getLsbD i)))
      ∧ (∃ t v, exec (.ori rs rt imm) s = .next t ∧ WritesReg rt v s t
        ∧ ∀ i < 32, v.getLsbD i = ((s.gpr rs).getLsbD i || (decide (i < 16) && imm.getLsbD i)))
      ∧ (∃ t v, exec (.xori rs rt imm) s = .next t ∧ WritesReg rt v s t
        ∧ ∀ i < 32, v.getLsbD i = ((s.gpr rs).getLsbD i != (decide (i < 16) && imm.getLsbD i)))
      ∧ (∃ t, exec (.lui rt imm) s = .next t ∧ WritesReg rt (BitVec.ofNat 32 (imm.toNat * 2 ^ 16)) s t))

/-- NOR complements the whole disjunction: the spec's decision D16. -/
def Obligations.NorComplementsTheDisjunction : Prop :=
  ∀ (rs rt rd : RegIdx) (s : State), ∃ t v, exec (.nor rs rt rd) s = .next t ∧ WritesReg rd v s t
    ∧ ∀ i < 32, v.getLsbD i = !((s.gpr rs).getLsbD i || (s.gpr rt).getLsbD i)

/-- SLT and SLTI compare as two's-complement integers, SLTU and SLTIU as natural numbers, SLTIU against the sign-extended
immediate; the result is 1 or 0 (decision D10). -/
def Obligations.SetOnLessThanComparesExactly : Prop :=
  (∀ (rs rt rd : RegIdx) (s : State),
    (∃ t, exec (.slt rs rt rd) s = .next t ∧ WritesReg rd (if (s.gpr rs).toInt < (s.gpr rt).toInt then 1 else 0) s t)
      ∧ (∃ t, exec (.sltu rs rt rd) s = .next t
        ∧ WritesReg rd (if (s.gpr rs).toNat < (s.gpr rt).toNat then 1 else 0) s t))
  ∧ (∀ (rs rt : RegIdx) (imm : BitVec 16) (s : State),
    (∃ t, exec (.slti rs rt imm) s = .next t ∧ WritesReg rt (if (s.gpr rs).toInt < imm.toInt then 1 else 0) s t)
      ∧ (∃ t, exec (.sltiu rs rt imm) s = .next t
        ∧ WritesReg rt
            (if (s.gpr rs).toNat < (if imm.toNat < 0x8000 then imm.toNat else imm.toNat + 0xFFFF0000) then 1 else 0) s t))

/-- R139, R140: the count of equal bits from bit 31 downward; the `rt` field does not matter; CLO counts in the complement; the
encodings; no fault. -/
def Obligations.CountLeadingBits : Prop :=
  (∀ (rs rt rd : RegIdx),
    decodeWord (0b011100#6 ++ rs ++ rt ++ rd ++ 0b00000#5 ++ 0b100000#6) = .instr (.clz rs rt rd)
      ∧ decodeWord (0b011100#6 ++ rs ++ rt ++ rd ++ 0b00000#5 ++ 0b100001#6) = .instr (.clo rs rt rd))
  ∧ (∀ (rs rt rd : RegIdx) (s : State), ∃ t n, n ≤ 32
    ∧ exec (.clz rs rt rd) s = .next t ∧ WritesReg rd (BitVec.ofNat 32 n) s t
    ∧ (∀ j < n, (s.gpr rs).getLsbD (31 - j) = false) ∧ (n < 32 → (s.gpr rs).getLsbD (31 - n) = true)
    ∧ (n = 32 ↔ s.gpr rs = 0))
  ∧ (∀ (rs rt rd : RegIdx) (s : State), ∃ t n, n ≤ 32
    ∧ exec (.clo rs rt rd) s = .next t ∧ WritesReg rd (BitVec.ofNat 32 n) s t
    ∧ (∀ j < n, (s.gpr rs).getLsbD (31 - j) = true) ∧ (n < 32 → (s.gpr rs).getLsbD (31 - n) = false)
    ∧ (n = 32 ↔ s.gpr rs = 0xFFFFFFFF))
  ∧ (∀ (rs rt rd rs' rt' rd' : RegIdx) (s s' t t' : State), s'.gpr rs' = ~~~(s.gpr rs) → rd ≠ 0 → rd' ≠ 0 →
    exec (.clo rs rt rd) s = .next t → exec (.clz rs' rt' rd') s' = .next t' → t.gpr rd = t'.gpr rd')

/-! ## Shifts (41_alu_shift.md) -/

/-- R151, R154, R157, R158: SLL and SLLV multiply by a power of two and keep the low 32 bits; ROTR and ROTRV move bit
`(i + n) mod 32` to bit `i`; a register amount counts by its low five bits; the encodings; no fault. -/
def Obligations.ShiftLeftAndRotate : Prop :=
  (∀ (rt rd : RegIdx) (sa : BitVec 5),
    decodeWord (0b000000#6 ++ 0b00000#5 ++ rt ++ rd ++ sa ++ 0b000000#6) = .instr (.sll rt rd sa)
      ∧ decodeWord (0b000000#6 ++ 0b00001#5 ++ rt ++ rd ++ sa ++ 0b000010#6) = .instr (.rotr rt rd sa))
  ∧ (∀ (rs rt rd : RegIdx),
    decodeWord (0b000000#6 ++ rs ++ rt ++ rd ++ 0b00000#5 ++ 0b000100#6) = .instr (.sllv rs rt rd)
      ∧ decodeWord (0b000000#6 ++ rs ++ rt ++ rd ++ 0b00001#5 ++ 0b000110#6) = .instr (.rotrv rs rt rd))
  ∧ (∀ (rt rd : RegIdx) (sa : BitVec 5) (s : State),
    (∃ t, exec (.sll rt rd sa) s = .next t ∧ WritesReg rd (BitVec.ofNat 32 ((s.gpr rt).toNat * 2 ^ sa.toNat)) s t)
      ∧ (∃ t v, exec (.rotr rt rd sa) s = .next t ∧ WritesReg rd v s t
        ∧ ∀ i < 32, v.getLsbD i = (s.gpr rt).getLsbD ((i + sa.toNat) % 32)))
  ∧ (∀ (rs rt rd : RegIdx) (s : State),
    (∃ t, exec (.sllv rs rt rd) s = .next t
        ∧ WritesReg rd (BitVec.ofNat 32 ((s.gpr rt).toNat * 2 ^ ((s.gpr rs).toNat % 32))) s t)
      ∧ (∃ t v, exec (.rotrv rs rt rd) s = .next t ∧ WritesReg rd v s t
        ∧ ∀ i < 32, v.getLsbD i = (s.gpr rt).getLsbD ((i + (s.gpr rs).toNat) % 32)))

/-- SRL and SRLV divide the natural number, SRA and SRAV the two's-complement integer, by a power of two and round toward minus
infinity (decision D10). -/
def Obligations.ShiftRightDivides : Prop :=
  (∀ (rt rd : RegIdx) (sa : BitVec 5) (s : State),
    (∃ t, exec (.srl rt rd sa) s = .next t ∧ WritesReg rd (BitVec.ofNat 32 ((s.gpr rt).toNat / 2 ^ sa.toNat)) s t)
      ∧ (∃ t v, exec (.sra rt rd sa) s = .next t ∧ WritesReg rd v s t ∧ v.toInt = (s.gpr rt).toInt / 2 ^ sa.toNat))
  ∧ (∀ (rs rt rd : RegIdx) (s : State),
    (∃ t, exec (.srlv rs rt rd) s = .next t
        ∧ WritesReg rd (BitVec.ofNat 32 ((s.gpr rt).toNat / 2 ^ ((s.gpr rs).toNat % 32))) s t)
      ∧ (∃ t v, exec (.srav rs rt rd) s = .next t ∧ WritesReg rd v s t
        ∧ v.toInt = (s.gpr rt).toInt / 2 ^ ((s.gpr rs).toNat % 32)))

/-! ## Multiply, divide, `hi` and `lo` (42_alu_muldiv.md, 47_misc.md) -/

/-- MULT and MULTU leave the exact product in `hi || lo`, signed and unsigned (decision D10); MUL leaves its low word in `x[rd]`
and `hi`, `lo` as they were (decision D12). -/
def Obligations.MultiplyIsExact : Prop :=
  (∀ (rs rt : RegIdx) (s : State),
    (∃ t h l, exec (.mult rs rt) s = .next t ∧ WritesHiLo h l s t ∧ t.draws = s.draws
        ∧ (h ++ l : BitVec 64).toInt = (s.gpr rs).toInt * (s.gpr rt).toInt)
      ∧ (∃ t h l, exec (.multu rs rt) s = .next t ∧ WritesHiLo h l s t ∧ t.draws = s.draws
        ∧ (h ++ l : BitVec 64).toNat = (s.gpr rs).toNat * (s.gpr rt).toNat))
  ∧ (∀ (rs rt rd : RegIdx) (s : State), ∃ t, exec (.mul rs rt rd) s = .next t
    ∧ WritesReg rd (BitVec.ofInt 32 ((s.gpr rs).toInt * (s.gpr rt).toInt)) s t
    ∧ BitVec.ofInt 32 ((s.gpr rs).toInt * (s.gpr rt).toInt) = BitVec.ofNat 32 ((s.gpr rs).toNat * (s.gpr rt).toNat))

/-- MADDU and MSUBU add the exact unsigned product to `hi || lo`, and subtract it, modulo 2^64 (decision D34). -/
def Obligations.MultiplyAccumulateWraps : Prop :=
  ∀ (rs rt : RegIdx) (s : State),
    (∃ t h l, exec (.maddu rs rt) s = .next t ∧ WritesHiLo h l s t ∧ t.draws = s.draws
      ∧ (h ++ l : BitVec 64)
        = BitVec.ofNat 64 (s.hi.toNat * 2 ^ 32 + s.lo.toNat + (s.gpr rs).toNat * (s.gpr rt).toNat))
    ∧ (∃ t h l, exec (.msubu rs rt) s = .next t ∧ WritesHiLo h l s t ∧ t.draws = s.draws
      ∧ (h ++ l : BitVec 64)
        = BitVec.ofInt 64 (s.hi.toNat * 2 ^ 32 + s.lo.toNat - (s.gpr rs).toNat * (s.gpr rt).toNat))

/-- R171, R172, R173, R174: the moves from and to `hi` and `lo`, the encodings, and no fault. -/
def Obligations.HiLoMovesCopy : Prop :=
  (∀ r : RegIdx,
    decodeWord (0b000000#6 ++ 0b00000#5 ++ 0b00000#5 ++ r ++ 0b00000#5 ++ 0b010000#6) = .instr (.mfhi r)
      ∧ decodeWord (0b000000#6 ++ 0b00000#5 ++ 0b00000#5 ++ r ++ 0b00000#5 ++ 0b010010#6) = .instr (.mflo r)
      ∧ decodeWord (0b000000#6 ++ r ++ 0b00000#5 ++ 0b00000#5 ++ 0b00000#5 ++ 0b010001#6) = .instr (.mthi r)
      ∧ decodeWord (0b000000#6 ++ r ++ 0b00000#5 ++ 0b00000#5 ++ 0b00000#5 ++ 0b010011#6) = .instr (.mtlo r))
  ∧ (∀ (r : RegIdx) (s : State),
    (∃ t, exec (.mfhi r) s = .next t ∧ WritesReg r s.hi s t)
      ∧ (∃ t, exec (.mflo r) s = .next t ∧ WritesReg r s.lo s t)
      ∧ (∃ t, exec (.mthi r) s = .next t ∧ WritesHiLo (s.gpr r) s.lo s t ∧ t.draws = s.draws)
      ∧ (∃ t, exec (.mtlo r) s = .next t ∧ WritesHiLo s.hi (s.gpr r) s t ∧ t.draws = s.draws))

/-- DIV and DIVU with a divisor other than 0: `lo` is the quotient and `hi` the remainder. The signed quotient is rounded toward
zero and the remainder has the sign of the dividend; for -2^31 by -1 the low 32 bits are kept (decision D11). -/
def Obligations.DivideByNonzero : Prop :=
  (∀ (rs rt : RegIdx) (s : State), s.gpr rt ≠ 0 →
    ∃ t h l, exec (.divu rs rt) s = .next t ∧ WritesHiLo h l s t ∧ t.draws = s.draws
      ∧ l.toNat * (s.gpr rt).toNat + h.toNat = (s.gpr rs).toNat ∧ h.toNat < (s.gpr rt).toNat)
  ∧ (∀ (rs rt : RegIdx) (s : State), s.gpr rt ≠ 0 →
    ∃ t h l, exec (.div rs rt) s = .next t ∧ WritesHiLo h l s t ∧ t.draws = s.draws
      ∧ (if s.gpr rs = 0x80000000 ∧ s.gpr rt = 0xFFFFFFFF then l = 0x80000000 ∧ h = 0
        else l.toInt * (s.gpr rt).toInt + h.toInt = (s.gpr rs).toInt
          ∧ h.toInt.natAbs < (s.gpr rt).toInt.natAbs
          ∧ (0 ≤ (s.gpr rs).toInt → 0 ≤ h.toInt) ∧ ((s.gpr rs).toInt ≤ 0 → h.toInt ≤ 0)))

/-- DIV and DIVU with divisor 0 do not fault: `hi` and `lo` get the values of the parameter `DIV_BY_ZERO` (decision D11). Under the
policy `draw` the values are free (log entry 10): the statement says of them only that they are the free values. -/
def Obligations.DivideByZeroTakesTheParameter : Prop :=
  ∀ (rs rt : RegIdx) (s : State), s.gpr rt = 0 →
    (∃ t, exec (.div rs rt) s = .next t
      ∧ (∀ h l, s.par.divByZero = .values h l → WritesHiLo h l s t ∧ t.draws = s.draws)
      ∧ (s.par.divByZero = .draw →
        WritesHiLo (Config.divByZeroHi s.draws) (Config.divByZeroLo s.draws) s t ∧ t.draws = s.draws + 1))
    ∧ exec (.divu rs rt) s = exec (.div rs rt) s

/-! ## Loads and stores (43_load_store.md, 20_memory.md) -/

/-- The effective address is `x[base]` plus the signed offset, modulo 2^32 (decision D8). -/
def Obligations.EffectiveAddressAddsSignedOffset : Prop :=
  ∀ (s : State) (base : RegIdx) (offset : BitVec 16),
    effAddr s base offset = BitVec.ofInt 32 ((s.gpr base).toNat + offset.toInt)

/-- R190, R191: LB sign-extends and LBU zero-extends the byte at the address; a byte not valid for `load` raises `AccessFault`, also
when `rt` is 0; never `AddressError`; the encodings. That the byte has a value is log entry 5's condition. -/
def Obligations.LoadByteExtends : Prop :=
  (∀ (base rt : RegIdx) (offset : BitVec 16),
    decodeWord (0b100000#6 ++ base ++ rt ++ offset) = .instr (.lb base rt offset)
      ∧ decodeWord (0b100100#6 ++ base ++ rt ++ offset) = .instr (.lbu base rt offset))
  ∧ (∀ (base rt : RegIdx) (offset : BitVec 16) (s : State) (b : Byte),
    Params.valid s.par .load (effAddr s base offset) = true →
    Memory.read s.mem (effAddr s base offset).toNat = some b →
      (∃ t, exec (.lb base rt offset) s = .next t ∧ WritesReg rt (BitVec.ofInt 32 b.toInt) s t)
      ∧ (∃ t, exec (.lbu base rt offset) s = .next t ∧ WritesReg rt (BitVec.ofNat 32 b.toNat) s t))
  ∧ (∀ (base rt : RegIdx) (offset : BitVec 16) (s : State),
    Params.valid s.par .load (effAddr s base offset) = false →
      exec (.lb base rt offset) s = .fault (.accessFault .load (effAddr s base offset))
      ∧ exec (.lbu base rt offset) s = .fault (.accessFault .load (effAddr s base offset)))
  ∧ (∀ (base rt : RegIdx) (offset : BitVec 16) (s : State) (k : AccessKind) (a : Word),
    exec (.lb base rt offset) s ≠ .fault (.addressError k a) ∧ exec (.lbu base rt offset) s ≠ .fault (.addressError k a))

/-- LH, LHU and LW at an aligned address load the halfword or word in the byte order of the machine (decisions D7, D8; that the
bytes have values is log entry 5's condition). -/
def Obligations.LoadHalfAndWordInByteOrder : Prop :=
  (∀ (base rt : RegIdx) (offset : BitVec 16) (s : State) (b0 b1 : Byte), (effAddr s base offset).toNat % 2 = 0 →
    ValidBytes s .load (effAddr s base offset) 2 →
    ByteAt s (effAddr s base offset) 0 b0 → ByteAt s (effAddr s base offset) 1 b1 →
      (∃ t, exec (.lh base rt offset) s = .next t
        ∧ WritesReg rt (BitVec.ofInt 32 (halfword s.par.byteOrder b0 b1).toInt) s t)
      ∧ (∃ t, exec (.lhu base rt offset) s = .next t
        ∧ WritesReg rt (BitVec.ofNat 32 (halfword s.par.byteOrder b0 b1).toNat) s t))
  ∧ (∀ (base rt : RegIdx) (offset : BitVec 16) (s : State) (b0 b1 b2 b3 : Byte),
    (effAddr s base offset).toNat % 4 = 0 → ValidBytes s .load (effAddr s base offset) 4 →
    ByteAt s (effAddr s base offset) 0 b0 → ByteAt s (effAddr s base offset) 1 b1 →
    ByteAt s (effAddr s base offset) 2 b2 → ByteAt s (effAddr s base offset) 3 b3 →
      ∃ t, exec (.lw base rt offset) s = .next t ∧ WritesReg rt (word s.par.byteOrder b0 b1 b2 b3) s t)

/-- LL loads what LW loads and holds the reservation of its address (decision D22). -/
def Obligations.LoadLinkedReserves : Prop :=
  ∀ (base rt : RegIdx) (offset : BitVec 16) (s : State) (b0 b1 b2 b3 : Byte),
    (effAddr s base offset).toNat % 4 = 0 → ValidBytes s .load (effAddr s base offset) 4 →
    ByteAt s (effAddr s base offset) 0 b0 → ByteAt s (effAddr s base offset) 1 b1 →
    ByteAt s (effAddr s base offset) 2 b2 → ByteAt s (effAddr s base offset) 3 b3 →
      ∃ t, exec (.ll base rt offset) s = .next t ∧ RegWritten rt (word s.par.byteOrder b0 b1 b2 b3) s t
        ∧ t.llValid = true ∧ t.llAddr = effAddr s base offset
        ∧ HiLoKept s t ∧ MemoryKept s t ∧ RestKept s t ∧ Advanced s t

/-- LWL and LWR: with `a` the aligned word and `b` the low bits of the address, LWL puts memory bytes `a` to `a + b` (`little`) or
`a + b` to `a + 3` (`big`) into the most significant bytes of the register, LWR the bytes `a + b` to `a + 3` (`little`) or `a` to
`a + b` (`big`) into the least significant ones; the others stay (decision D7). `m i` is the byte at `a + i`; only the bytes moved
need be valid. -/
def Obligations.UnalignedLoadsMerge : Prop :=
  (∀ (base rt : RegIdx) (offset : BitVec 16) (s : State) (m : Nat → Byte) (addr : Word), addr = effAddr s base offset →
    (∀ i < 4, ByOrder s.par.byteOrder (i ≤ lowBits addr) (lowBits addr ≤ i) →
      Params.valid s.par .load (alignedWord addr + BitVec.ofNat 32 i) = true ∧ ByteAt s (alignedWord addr) i (m i)) →
      ∃ t v, exec (.lwl base rt offset) s = .next t ∧ WritesReg rt v s t
        ∧ ∀ k < 4, ByOrder s.par.byteOrder
            (byteOf v k = if 3 - lowBits addr ≤ k then m (k - (3 - lowBits addr)) else byteOf (s.gpr rt) k)
            (byteOf v k = if lowBits addr ≤ k then m (lowBits addr + 3 - k) else byteOf (s.gpr rt) k))
  ∧ (∀ (base rt : RegIdx) (offset : BitVec 16) (s : State) (m : Nat → Byte) (addr : Word), addr = effAddr s base offset →
    (∀ i < 4, ByOrder s.par.byteOrder (lowBits addr ≤ i) (i ≤ lowBits addr) →
      Params.valid s.par .load (alignedWord addr + BitVec.ofNat 32 i) = true ∧ ByteAt s (alignedWord addr) i (m i)) →
      ∃ t v, exec (.lwr base rt offset) s = .next t ∧ WritesReg rt v s t
        ∧ ∀ k < 4, ByOrder s.par.byteOrder
            (byteOf v k = if k + lowBits addr ≤ 3 then m (k + lowBits addr) else byteOf (s.gpr rt) k)
            (byteOf v k = if k ≤ lowBits addr then m (lowBits addr - k) else byteOf (s.gpr rt) k))

/-- R200: SB stores the low byte and nothing else; the reservation goes if the byte lies in its word; a byte not valid for `store`
raises `AccessFault`; never `AddressError`; the encoding. -/
def Obligations.StoreByteStoresLowByte : Prop :=
  (∀ (base rt : RegIdx) (offset : BitVec 16), decodeWord (0b101000#6 ++ base ++ rt ++ offset) = .instr (.sb base rt offset))
  ∧ (∀ (base rt : RegIdx) (offset : BitVec 16) (s : State), Params.valid s.par .store (effAddr s base offset) = true →
    ∃ t, exec (.sb base rt offset) s = .next t
      ∧ Stores (effAddr s base offset) 1 (fun _ => BitVec.ofNat 8 (s.gpr rt).toNat) s t)
  ∧ (∀ (base rt : RegIdx) (offset : BitVec 16) (s : State), Params.valid s.par .store (effAddr s base offset) = false →
    exec (.sb base rt offset) s = .fault (.accessFault .store (effAddr s base offset)))
  ∧ (∀ (base rt : RegIdx) (offset : BitVec 16) (s : State) (k : AccessKind) (a : Word),
    exec (.sb base rt offset) s ≠ .fault (.addressError k a))

/-- SH and SW at an aligned address store the low halfword and the word in the byte order of the machine (decisions D7, D8). -/
def Obligations.StoreHalfAndWordInByteOrder : Prop :=
  (∀ (base rt : RegIdx) (offset : BitVec 16) (s : State), (effAddr s base offset).toNat % 2 = 0 →
    ValidBytes s .store (effAddr s base offset) 2 →
      ∃ t, exec (.sh base rt offset) s = .next t
        ∧ Stores (effAddr s base offset) 2 (storedByte s.par.byteOrder 2 (s.gpr rt)) s t)
  ∧ (∀ (base rt : RegIdx) (offset : BitVec 16) (s : State), (effAddr s base offset).toNat % 4 = 0 →
    ValidBytes s .store (effAddr s base offset) 4 →
      ∃ t, exec (.sw base rt offset) s = .next t
        ∧ Stores (effAddr s base offset) 4 (storedByte s.par.byteOrder 4 (s.gpr rt)) s t)

/-- SWL stores the most significant bytes of the register to `a` … `a + b` (`little`) or `a + b` … `a + 3` (`big`), SWR the least
significant ones to `a + b` … `a + 3` (`little`) or `a` … `a + b` (`big`) (decision D7). -/
def Obligations.UnalignedStoresMoveTheirBytes : Prop :=
  ∀ (base rt : RegIdx) (offset : BitVec 16) (s : State) (addr : Word), addr = effAddr s base offset →
    (s.par.byteOrder = .little →
        (ValidBytes s .store (alignedWord addr) (lowBits addr + 1) →
          ∃ t, exec (.swl base rt offset) s = .next t
            ∧ Stores (alignedWord addr) (lowBits addr + 1) (fun i => byteOf (s.gpr rt) (3 - lowBits addr + i)) s t)
        ∧ (ValidBytes s .store addr (4 - lowBits addr) →
          ∃ t, exec (.swr base rt offset) s = .next t
            ∧ Stores addr (4 - lowBits addr) (fun i => byteOf (s.gpr rt) i) s t))
    ∧ (s.par.byteOrder = .big →
        (ValidBytes s .store addr (4 - lowBits addr) →
          ∃ t, exec (.swl base rt offset) s = .next t
            ∧ Stores addr (4 - lowBits addr) (fun i => byteOf (s.gpr rt) (3 - i)) s t)
        ∧ (ValidBytes s .store (alignedWord addr) (lowBits addr + 1) →
          ∃ t, exec (.swr base rt offset) s = .next t
            ∧ Stores (alignedWord addr) (lowBits addr + 1) (fun i => byteOf (s.gpr rt) (lowBits addr - i)) s t))

/-- SC at an aligned, store-valid word always completes: the flag goes to `x[rt]`, the old value of `x[rt]` to memory if the flag is
1, and the reservation is gone (decisions D22, D42). `guarded` succeeds where the reservation matches, `strict` exactly there,
`always` always; where the policy leaves the flag open it is the free value (log entry 12). -/
def Obligations.StoreConditionalFollowsPolicy : Prop :=
  ∀ (base rt : RegIdx) (offset : BitVec 16) (s : State), (effAddr s base offset).toNat % 4 = 0 →
    ValidBytes s .store (effAddr s base offset) 4 →
      ∃ t ok, exec (.sc base rt offset) s = .next t
        ∧ RegWritten rt (if ok = true then 1 else 0) s t
        ∧ (ok = true →
          (∀ i < 4, ByteAt t (effAddr s base offset) i (storedByte s.par.byteOrder 4 (s.gpr rt) i))
          ∧ ∀ c : Nat, (∀ i < 4, (effAddr s base offset + BitVec.ofNat 32 i).toNat ≠ c) →
              Memory.read t.mem c = Memory.read s.mem c)
        ∧ (ok = false → MemoryKept s t)
        ∧ t.llValid = false ∧ t.llAddr = s.llAddr ∧ HiLoKept s t ∧ HostKept s t ∧ Advanced s t
        ∧ (s.par.scPolicy = .guarded →
          if s.llValid = true ∧ s.llAddr = effAddr s base offset then ok = true ∧ t.draws = s.draws
          else ok = Config.scDraw s.draws ∧ t.draws = s.draws + 1)
        ∧ (s.par.scPolicy = .strict →
          (ok = true ↔ s.llValid = true ∧ s.llAddr = effAddr s base offset) ∧ t.draws = s.draws)
        ∧ (s.par.scPolicy = .always → ok = true ∧ t.draws = s.draws)
        ∧ (s.par.scPolicy = .draw → ok = Config.scDraw s.draws ∧ t.draws = s.draws + 1)

/-- A misaligned halfword or word access raises `AddressError`, whether or not its bytes are valid; an aligned one with a byte that is
not valid for its kind raises `AccessFault`, SC also where it would not store (decisions D8, D26, D42). -/
def Obligations.AlignedAccessChecks : Prop :=
  (∀ (base rt : RegIdx) (offset : BitVec 16) (s : State),
    if (effAddr s base offset).toNat % 2 ≠ 0 then
      exec (.lh base rt offset) s = .fault (.addressError .load (effAddr s base offset))
      ∧ exec (.lhu base rt offset) s = .fault (.addressError .load (effAddr s base offset))
      ∧ exec (.sh base rt offset) s = .fault (.addressError .store (effAddr s base offset))
    else
      (¬ValidBytes s .load (effAddr s base offset) 2 →
        exec (.lh base rt offset) s = .fault (.accessFault .load (effAddr s base offset))
        ∧ exec (.lhu base rt offset) s = .fault (.accessFault .load (effAddr s base offset)))
      ∧ (¬ValidBytes s .store (effAddr s base offset) 2 →
        exec (.sh base rt offset) s = .fault (.accessFault .store (effAddr s base offset))))
  ∧ (∀ (base rt : RegIdx) (offset : BitVec 16) (s : State),
    if (effAddr s base offset).toNat % 4 ≠ 0 then
      exec (.lw base rt offset) s = .fault (.addressError .load (effAddr s base offset))
      ∧ exec (.ll base rt offset) s = .fault (.addressError .load (effAddr s base offset))
      ∧ exec (.sw base rt offset) s = .fault (.addressError .store (effAddr s base offset))
      ∧ exec (.sc base rt offset) s = .fault (.addressError .store (effAddr s base offset))
    else
      (¬ValidBytes s .load (effAddr s base offset) 4 →
        exec (.lw base rt offset) s = .fault (.accessFault .load (effAddr s base offset))
        ∧ exec (.ll base rt offset) s = .fault (.accessFault .load (effAddr s base offset)))
      ∧ (¬ValidBytes s .store (effAddr s base offset) 4 →
        exec (.sw base rt offset) s = .fault (.accessFault .store (effAddr s base offset))
        ∧ exec (.sc base rt offset) s = .fault (.accessFault .store (effAddr s base offset))))

/-- LWL, LWR, SWL and SWR never raise `AddressError`; they raise `AccessFault` exactly if one of the bytes they move is not valid
(decisions D7, D8, D26). -/
def Obligations.UnalignedAccessChecksMovedBytes : Prop :=
  ∀ (base rt : RegIdx) (offset : BitVec 16) (s : State) (addr : Word), addr = effAddr s base offset →
    (∀ (k : AccessKind) (a : Word),
      exec (.lwl base rt offset) s ≠ .fault (.addressError k a) ∧ exec (.lwr base rt offset) s ≠ .fault (.addressError k a)
      ∧ exec (.swl base rt offset) s ≠ .fault (.addressError k a)
      ∧ exec (.swr base rt offset) s ≠ .fault (.addressError k a))
    ∧ (s.par.byteOrder = .little →
          (exec (.lwl base rt offset) s = .fault (.accessFault .load addr)
            ↔ ¬ValidBytes s .load (alignedWord addr) (lowBits addr + 1))
          ∧ (exec (.lwr base rt offset) s = .fault (.accessFault .load addr) ↔ ¬ValidBytes s .load addr (4 - lowBits addr))
          ∧ (exec (.swl base rt offset) s = .fault (.accessFault .store addr)
            ↔ ¬ValidBytes s .store (alignedWord addr) (lowBits addr + 1))
          ∧ (exec (.swr base rt offset) s = .fault (.accessFault .store addr) ↔ ¬ValidBytes s .store addr (4 - lowBits addr)))
    ∧ (s.par.byteOrder = .big →
          (exec (.lwl base rt offset) s = .fault (.accessFault .load addr) ↔ ¬ValidBytes s .load addr (4 - lowBits addr))
          ∧ (exec (.lwr base rt offset) s = .fault (.accessFault .load addr)
            ↔ ¬ValidBytes s .load (alignedWord addr) (lowBits addr + 1))
          ∧ (exec (.swl base rt offset) s = .fault (.accessFault .store addr) ↔ ¬ValidBytes s .store addr (4 - lowBits addr))
          ∧ (exec (.swr base rt offset) s = .fault (.accessFault .store addr)
            ↔ ¬ValidBytes s .store (alignedWord addr) (lowBits addr + 1)))

/-- The unaligned load idiom: two instructions, in the order the byte order asks for, load the word at any address `A`, aligned or
not, also across the top of the address space (derived by the spec from the rules of LWL and LWR, decision D7). -/
def Obligations.UnalignedLoadIdiom : Prop :=
  ∀ (base rt : RegIdx) (o o3 : BitVec 16) (s : State) (b0 b1 b2 b3 : Byte) (A : Word), A = effAddr s base o →
    o3.toInt = o.toInt + 3 → rt ≠ 0 → rt ≠ base → ValidBytes s .load A 4 →
    ByteAt s A 0 b0 → ByteAt s A 1 b1 → ByteAt s A 2 b2 → ByteAt s A 3 b3 →
      ∃ t u, ByOrder s.par.byteOrder
          (exec (.lwr base rt o) s = .next t ∧ exec (.lwl base rt o3) t = .next u)
          (exec (.lwl base rt o) s = .next t ∧ exec (.lwr base rt o3) t = .next u)
        ∧ RegWritten rt (word s.par.byteOrder b0 b1 b2 b3) s u ∧ MemoryKept s u

/-- The unaligned store idiom: the same pairs with SWR and SWL store the word at any address `A` and no other byte (decision D7). -/
def Obligations.UnalignedStoreIdiom : Prop :=
  ∀ (base rt : RegIdx) (o o3 : BitVec 16) (s : State) (A : Word), A = effAddr s base o → o3.toInt = o.toInt + 3 →
    ValidBytes s .store A 4 →
      ∃ t u, ByOrder s.par.byteOrder
          (exec (.swr base rt o) s = .next t ∧ exec (.swl base rt o3) t = .next u)
          (exec (.swl base rt o) s = .next t ∧ exec (.swr base rt o3) t = .next u)
        ∧ (∀ i < 4, ByteAt u A i (storedByte s.par.byteOrder 4 (s.gpr rt) i))
        ∧ (∀ c : Nat, (∀ i < 4, (A + BitVec.ofNat 32 i).toNat ≠ c) → Memory.read u.mem c = Memory.read s.mem c)
        ∧ RegsKept s u

/-- A word stored is what a load of that word then loads, and what the byte and halfword loads inside it see follows the byte
order (R53, R55, R63; decisions D7, D38). -/
def Obligations.LoadsSeeTheStoredWord : Prop :=
  ∀ (s t : State) (a v : Word), memWrite s a 4 v = .next t → ValidBytes s .load a 4 →
    memRead t .load a 4 = .next v
    ∧ (∀ i < 4, memRead t .load (a + BitVec.ofNat 32 i) 1
        = .next ((storedByte s.par.byteOrder 4 v i).setWidth 32))
    ∧ ByOrder s.par.byteOrder
        (memRead t .load a 2 = .next ((v.extractLsb' 0 16).setWidth 32)
          ∧ memRead t .load (a + 2) 2 = .next ((v.extractLsb' 16 16).setWidth 32))
        (memRead t .load a 2 = .next ((v.extractLsb' 16 16).setWidth 32)
          ∧ memRead t .load (a + 2) 2 = .next ((v.extractLsb' 0 16).setWidth 32))

/-- After an LL, any instructions that are neither stores nor SYSCALL nor another LL or SC, and under every policy but `draw`, an SC
to the LL's address succeeds: it stores and sets its flag (decision D22). -/
def Obligations.LinkedStoreSucceeds : Prop :=
  ∀ (base rt base' rt' : RegIdx) (offset offset' : BitVec 16) (between : List Instr) (s t u : State),
    exec (.ll base rt offset) s = .next t → Executes between t u → (∀ i ∈ between, keepsReservation i = true) →
    effAddr u base' offset' = effAddr s base offset → ValidBytes s .store (effAddr s base offset) 4 →
    s.par.scPolicy ≠ .draw →
      ∃ w, exec (.sc base' rt' offset') u = .next w
        ∧ (∀ i < 4, ByteAt w (effAddr s base offset) i (storedByte s.par.byteOrder 4 (u.gpr rt') i))
        ∧ RegWritten rt' 1 u w ∧ w.llValid = false

/-! ## Branches and jumps (44_branch.md, 45_jump.md) -/

/-- The six conditional branches, wherever they are not stopped by the delay-slot policy: the delay-slot instruction executes
next, and after it the target if the condition holds, else the instruction after the slot (decisions D4, D5, D10). -/
def Obligations.BranchesGoToTheTarget : Prop :=
  ∀ (rs rt : RegIdx) (offset : BitVec 16) (s : State) (target : Word),
    ¬(s.ds = true ∧ s.par.delaySlotBranch = .fault) → target = BitVec.ofInt 32 (s.pc.toNat + 4 + 4 * offset.toInt) →
      (∃ t, exec (.beq rs rt offset) s = .next t
        ∧ Transfers (RegsKept s t) (if s.gpr rs = s.gpr rt then target else s.npc + 4) s t)
      ∧ (∃ t, exec (.bne rs rt offset) s = .next t
        ∧ Transfers (RegsKept s t) (if s.gpr rs = s.gpr rt then s.npc + 4 else target) s t)
      ∧ (∃ t, exec (.bgez rs offset) s = .next t
        ∧ Transfers (RegsKept s t) (if 0 ≤ (s.gpr rs).toInt then target else s.npc + 4) s t)
      ∧ (∃ t, exec (.bgtz rs offset) s = .next t
        ∧ Transfers (RegsKept s t) (if 0 < (s.gpr rs).toInt then target else s.npc + 4) s t)
      ∧ (∃ t, exec (.blez rs offset) s = .next t
        ∧ Transfers (RegsKept s t) (if (s.gpr rs).toInt ≤ 0 then target else s.npc + 4) s t)
      ∧ (∃ t, exec (.bltz rs offset) s = .next t
        ∧ Transfers (RegsKept s t) (if (s.gpr rs).toInt < 0 then target else s.npc + 4) s t)

/-- The five jumps, wherever they are not stopped by the delay-slot policy: the target, and the link `pc + 8`, which JALR writes
after reading its target (decisions D4, D5, D29). -/
def Obligations.JumpsLinkAndGo : Prop :=
  ∀ (rs rd : RegIdx) (hint : BitVec 5) (index : BitVec 26) (offset : BitVec 16) (s : State) (region : Word),
    ¬(s.ds = true ∧ s.par.delaySlotBranch = .fault) →
    region = BitVec.ofNat 32 ((s.pc + 4).toNat / 2 ^ 28 * 2 ^ 28 + 4 * index.toNat) →
      (∃ t, exec (.j index) s = .next t ∧ Transfers (RegsKept s t) region s t)
      ∧ (∃ t, exec (.jal index) s = .next t ∧ Transfers (RegWritten 31 (s.pc + 8) s t) region s t)
      ∧ (∃ t, exec (.jr rs hint) s = .next t ∧ Transfers (RegsKept s t) (s.gpr rs) s t)
      ∧ (∃ t, exec (.jalr rs rd hint) s = .next t ∧ Transfers (RegWritten rd (s.pc + 8) s t) (s.gpr rs) s t)
      ∧ (∃ t, exec (.bal offset) s = .next t
        ∧ Transfers (RegWritten 31 (s.pc + 8) s t) (BitVec.ofInt 32 (s.pc.toNat + 4 + 4 * offset.toInt)) s t)

/-- Under `DELAY_SLOT_BRANCH = fault` each of the eleven control transfers in a delay slot raises `DelaySlotBranch`, and no other
instruction ever does (decision D6). -/
def Obligations.TransferInDelaySlotFaults : Prop :=
  (∀ (i : Instr) (s : State), controlTransfer i = true → s.ds = true → s.par.delaySlotBranch = .fault →
    exec i s = .fault (.delaySlotBranch s.pc))
  ∧ (∀ (i : Instr) (s : State) (a : Word), exec i s = .fault (.delaySlotBranch a) →
    controlTransfer i = true ∧ s.ds = true ∧ s.par.delaySlotBranch = .fault ∧ a = s.pc)

/-! ## SYSCALL (46_syscall.md) -/

/-- R249: the 40 system calls and their numbers. -/
def Obligations.SystemCallNumbers : Prop :=
  services.map (fun v => (v, serviceNumber v)) = syscallTable

/-- SYSCALL with the number 0 ends the run with the code of the first argument register, and changes nothing else
(decisions D20, D33, D43). -/
def Obligations.HaltEndsTheRun : Prop :=
  ∀ (code : BitVec 20) (s : State), s.gpr s.par.syscallNumReg = 0 →
    ∃ t, exec (.syscall code) s = .next t ∧ t.outcome = .halted (s.gpr s.par.syscallArg0Reg)
      ∧ RegsKept s t ∧ HiLoKept s t ∧ ReservationKept s t ∧ MemoryKept s t
      ∧ t.pc = s.pc ∧ t.npc = s.npc ∧ t.ds = s.ds
      ∧ t.env = s.env ∧ t.replies = s.replies ∧ t.par = s.par ∧ t.draws = s.draws

/-- A listed service other than HALT whose call the environment answers: the result register, the bytes the answer names (the last write
to a byte counts), the environment's state, the reservation, and nothing else (decision D21; the form of the answer is log
entries 15 and 16). -/
def Obligations.AnsweredServiceTakesEffect : Prop :=
  ∀ (code : BitVec 20) (s : State) (v : Service) (ret : Option Word) (writes : List (Word × Byte)) (after : Environment)
    (rest : List EnvReply), (v, s.gpr s.par.syscallNumReg) ∈ syscallTable → v ≠ .halt →
    s.replies = .answer (requestOf s) ret writes after :: rest → (∀ c ∈ writes, Params.valid s.par .store c.1 = true) →
      ∃ t, exec (.syscall code) s = .next t
        ∧ (∀ r, ret = some r → RegWritten s.par.syscallRetReg r s t) ∧ (ret = none → RegsKept s t)
        ∧ (∀ (before later : List (Word × Byte)) (a : Word) (b : Byte), writes = before ++ (a, b) :: later →
            (∀ c ∈ later, c.1 ≠ a) → Memory.read t.mem a.toNat = some b)
        ∧ (∀ c : Nat, (∀ w ∈ writes, w.1.toNat ≠ c) → Memory.read t.mem c = Memory.read s.mem c)
        ∧ t.env = after ∧ t.replies = rest ∧ t.llValid = false ∧ t.llAddr = s.llAddr
        ∧ HiLoKept s t ∧ t.outcome = s.outcome ∧ t.par = s.par ∧ t.draws = s.draws ∧ Advanced s t

/-- A number that is not in the table raises `UnknownSyscall`; a listed service other than HALT which the environment does not
answer, refuses, answers for another call, or answers with a write that is not valid for `store`, raises `SyscallRefused`
(decision D21; log entries 15 and 17). -/
def Obligations.SystemCallFaults : Prop :=
  (∀ (code : BitVec 20) (s : State), (∀ v, (v, s.gpr s.par.syscallNumReg) ∉ syscallTable) →
    exec (.syscall code) s = .fault (.unknownSyscall (s.gpr s.par.syscallNumReg)))
  ∧ (∀ (code : BitVec 20) (s : State) (v : Service), (v, s.gpr s.par.syscallNumReg) ∈ syscallTable → v ≠ .halt →
    (s.replies = [] ∨ s.replies.head? = some .refuse
      ∨ ∃ request ret writes after, s.replies.head? = some (.answer request ret writes after)
          ∧ (request ≠ requestOf s ∨ ∃ c ∈ writes, Params.valid s.par .store c.1 = false)) →
    exec (.syscall code) s = .fault (.syscallRefused (s.gpr s.par.syscallNumReg)))

/-! ## Misc (47_misc.md) -/

/-- R271, R272: the moves, done or not by a test of `x[rt]` against 0; the encodings; no fault. -/
def Obligations.ConditionalMoves : Prop :=
  (∀ (rs rt rd : RegIdx),
    decodeWord (0b000000#6 ++ rs ++ rt ++ rd ++ 0b00000#5 ++ 0b001011#6) = .instr (.movn rs rt rd)
      ∧ decodeWord (0b000000#6 ++ rs ++ rt ++ rd ++ 0b00000#5 ++ 0b001010#6) = .instr (.movz rs rt rd))
  ∧ (∀ (rs rt rd : RegIdx) (s : State),
    (∃ t, exec (.movn rs rt rd) s = .next t
        ∧ if s.gpr rt = 0 then OnlyAdvances s t else WritesReg rd (s.gpr rs) s t)
      ∧ (∃ t, exec (.movz rs rt rd) s = .next t
        ∧ if s.gpr rt = 0 then WritesReg rd (s.gpr rs) s t else OnlyAdvances s t))

/-- R274, R275: the low byte and the low halfword as signed numbers; the encodings; no fault. -/
def Obligations.SignExtendByteAndHalf : Prop :=
  (∀ (rt rd : RegIdx),
    decodeWord (0b011111#6 ++ 0b00000#5 ++ rt ++ rd ++ 0b10000#5 ++ 0b100000#6) = .instr (.seb rt rd)
      ∧ decodeWord (0b011111#6 ++ 0b00000#5 ++ rt ++ rd ++ 0b11000#5 ++ 0b100000#6) = .instr (.seh rt rd))
  ∧ (∀ (rt rd : RegIdx) (s : State),
    (∃ t, exec (.seb rt rd) s = .next t ∧ WritesReg rd (BitVec.ofInt 32 ((s.gpr rt).extractLsb' 0 8).toInt) s t)
      ∧ (∃ t, exec (.seh rt rd) s = .next t ∧ WritesReg rd (BitVec.ofInt 32 ((s.gpr rt).extractLsb' 0 16).toInt) s t))

/-- WSBH swaps the two bytes inside each halfword; twice, it gives the value back (decision D31). -/
def Obligations.WordSwapBytesInHalves : Prop :=
  ∀ (rt rd rd' : RegIdx) (s : State),
    (∃ t v, exec (.wsbh rt rd) s = .next t ∧ WritesReg rd v s t
      ∧ byteOf v 0 = byteOf (s.gpr rt) 1 ∧ byteOf v 1 = byteOf (s.gpr rt) 0
      ∧ byteOf v 2 = byteOf (s.gpr rt) 3 ∧ byteOf v 3 = byteOf (s.gpr rt) 2)
    ∧ (rd ≠ 0 → rd' ≠ 0 → ∃ t u, exec (.wsbh rt rd) s = .next t ∧ exec (.wsbh rd rd') t = .next u ∧ u.gpr rd' = s.gpr rt)

/-- TEQ with equal registers raises `Trap` with its code; otherwise it only advances, whatever the code (decisions D17, D44). -/
def Obligations.TrapIfEqual : Prop :=
  ∀ (rs rt : RegIdx) (code : BitVec 10) (s : State),
    (s.gpr rs = s.gpr rt → exec (.teq rs rt code) s = .fault (.trap code))
    ∧ (s.gpr rs ≠ s.gpr rt → ∃ t, exec (.teq rs rt code) s = .next t ∧ OnlyAdvances s t)

/-- EXT with `msbd + lsb ≤ 31` takes the field of `msbd + 1` bits from bit `lsb`, with zeros above; INS with `lsb ≤ msb` puts the low
`msb - lsb + 1` bits of `x[rs]` at bits `msb` to `lsb` of `x[rt]` and keeps the others (decisions D15, D31). -/
def Obligations.BitFieldsInRange : Prop :=
  (∀ (rs rt : RegIdx) (msbd lsb : BitVec 5) (s : State), msbd.toNat + lsb.toNat ≤ 31 →
    ∃ t v, exec (.ext rs rt msbd lsb) s = .next t ∧ WritesReg rt v s t
      ∧ ∀ i < 32, v.getLsbD i = (decide (i ≤ msbd.toNat) && (s.gpr rs).getLsbD (lsb.toNat + i)))
  ∧ (∀ (rs rt : RegIdx) (msb lsb : BitVec 5) (s : State), lsb.toNat ≤ msb.toNat →
    ∃ t v, exec (.ins rs rt msb lsb) s = .next t ∧ WritesReg rt v s t
      ∧ ∀ i < 32, v.getLsbD i =
          if lsb.toNat ≤ i ∧ i ≤ msb.toNat then (s.gpr rs).getLsbD (i - lsb.toNat) else (s.gpr rt).getLsbD i)

/-- EXT and INS outside their ranges: under `BITFIELD_RANGE = fault` the fault records the instruction's own word (log entry 19);
under `draw` `x[rt]` gets a free value (decision D15; log entry 11). -/
def Obligations.BitFieldsOutOfRange : Prop :=
  ∀ (rs rt : RegIdx) (m lsb : BitVec 5) (s : State) (i : Instr) (func : BitVec 6),
    (i = .ext rs rt m lsb ∧ func = 0b000000#6 ∧ 31 < m.toNat + lsb.toNat)
      ∨ (i = .ins rs rt m lsb ∧ func = 0b000100#6 ∧ m.toNat < lsb.toNat) →
    (s.par.bitfieldRange = .fault → exec i s = .fault (.badBitfield (0b011111#6 ++ rs ++ rt ++ m ++ lsb ++ func)))
    ∧ (s.par.bitfieldRange = .draw → ∃ t, exec i s = .next t
        ∧ RegWritten rt (Config.bitfieldDraw s.draws) s t ∧ t.draws = s.draws + 1
        ∧ HiLoKept s t ∧ ReservationKept s t ∧ MemoryKept s t ∧ HostKept s t ∧ Advanced s t)

/-- SYNC, SYNCI and PREF advance and do nothing else, whatever their operands (decision D32). -/
def Obligations.NoOpsOnlyAdvance : Prop :=
  ∀ (stype hint : BitVec 5) (base : RegIdx) (offset : BitVec 16) (s : State),
    (∃ t, exec (.sync stype) s = .next t ∧ OnlyAdvances s t)
    ∧ (∃ t, exec (.synci base offset) s = .next t ∧ OnlyAdvances s t)
    ∧ (∃ t, exec (.pref base hint offset) s = .next t ∧ OnlyAdvances s t)

/-! ## Encoding (30_encoding.md) -/

/-- Decoding the word of any instruction, with every operand at every value, gives the instruction (decisions D13, D14). -/
def Obligations.DecodeOfEncode : Prop := ∀ i : Instr, decodeWord (encode i) = .instr i

/-- A word that decodes is the word of the instruction it decodes to: no bit of it is dropped. -/
def Obligations.EncodeOfDecode : Prop := ∀ (w : Word) (i : Instr), decodeWord w = .instr i → encode i = w

/-- The bytes of an instruction in either byte order decode to it, whatever follows them (decision D35). -/
def Obligations.DecodeOfEncodedBytes : Prop :=
  ∀ (order : ByteOrder) (i : Instr) (rest : List Byte), decodeBytes order (encodeBytes order i ++ rest) = .instr i

/-- No word matches two rows of the opcode table (decision D13). -/
def Obligations.AtMostOneRowMatches : Prop :=
  ∀ (w : Word) (n m : Nat) (r q : Row), opcodeTable[n]? = some r → opcodeTable[m]? = some q →
    w &&& r.mask = r.pattern → w &&& q.mask = q.pattern → n = m

/-- Words written out from the spec's encodings of one instruction of each format and family decode to it. -/
def Obligations.WrittenOutWordsDecode : Prop :=
  decodeWord 0x01095021 = .instr (.addu 8 9 10) ∧ decodeWord 0x3C088001 = .instr (.lui 8 0x8001)
  ∧ decodeWord 0x00285202 = .instr (.rotr 8 10 8) ∧ decodeWord 0x01090018 = .instr (.mult 8 9)
  ∧ decodeWord 0x8909FFFF = .instr (.lwl 8 9 0xFFFF) ∧ decodeWord 0xE1090000 = .instr (.sc 8 9 0)
  ∧ decodeWord 0x05010004 = .instr (.bgez 8 4) ∧ decodeWord 0x0C000410 = .instr (.jal 0x410)
  ∧ decodeWord 0x0000000C = .instr (.syscall 0) ∧ decodeWord 0x010901F4 = .instr (.teq 8 9 7)
  ∧ decodeWord 0x7D0A7A04 = .instr (.ins 8 10 15 8) ∧ decodeWord 0x71090005 = .instr (.msubu 8 9)

/-! ## The step and the run (00_scope.md, 60_exceptions.md, 70_reset_and_hazards.md) -/

/-- A running machine whose `pc` is aligned and whose four bytes there are fetch-valid executes the instruction that they decode to
in its byte order: the step is `exec` of it, with nothing added (decisions D13, D35). -/
def Obligations.StepRunsTheDecodedInstruction : Prop :=
  ∀ (s : State) (b0 b1 b2 b3 : Byte) (i : Instr), s.outcome = .running → s.pc.toNat % 4 = 0 → ValidBytes s .fetch s.pc 4 →
    ByteAt s s.pc 0 b0 → ByteAt s s.pc 1 b1 → ByteAt s s.pc 2 b2 → ByteAt s s.pc 3 b3 →
    decodeWord (word s.par.byteOrder b0 b1 b2 b3) = .instr i → step s = exec i s

/-- The faults of fetch and decode, in their order: a misaligned `pc`, a byte that is not fetch-valid, a word that matches no row
(decisions D13, D17, D35). -/
def Obligations.FetchAndDecodeFaults : Prop :=
  (∀ s : State, s.outcome = .running → s.pc.toNat % 4 ≠ 0 → step s = .fault (.addressError .fetch s.pc))
  ∧ (∀ s : State, s.outcome = .running → s.pc.toNat % 4 = 0 → ¬ValidBytes s .fetch s.pc 4 →
    step s = .fault (.accessFault .fetch s.pc))
  ∧ (∀ (s : State) (b0 b1 b2 b3 : Byte), s.outcome = .running → s.pc.toNat % 4 = 0 → ValidBytes s .fetch s.pc 4 →
    ByteAt s s.pc 0 b0 → ByteAt s s.pc 1 b1 → ByteAt s s.pc 2 b2 → ByteAt s s.pc 3 b3 →
    (∀ r ∈ opcodeTable, word s.par.byteOrder b0 b1 b2 b3 &&& r.mask ≠ r.pattern) →
    step s = .fault (.reservedInstruction (word s.par.byteOrder b0 b1 b2 b3)))

/-- A fault ends the run: the state is the one before the faulting instruction, with the fault as its outcome, and it stays that
for ever (decision D17). -/
def Obligations.FaultEndsTheRunAndChangesNothing : Prop :=
  ∀ (s : State) (f : Fault), step s = .fault f →
    ∀ n : Nat, ∃ t, runFor (n + 1) s = t ∧ t.outcome = .fault f ∧ step t = .refused .runEnded
      ∧ RegsKept s t ∧ HiLoKept s t ∧ ReservationKept s t ∧ MemoryKept s t
      ∧ t.pc = s.pc ∧ t.npc = s.npc ∧ t.ds = s.ds
      ∧ t.env = s.env ∧ t.replies = s.replies ∧ t.par = s.par ∧ t.draws = s.draws

/-- A step with a next state was taken from a running machine, and leaves it running, or halted by a SYSCALL with the number 0: a run
ends only by HALT or by a fault (decision D33). -/
def Obligations.OnlyHaltStopsWithoutFault : Prop :=
  ∀ s t : State, step s = .next t → s.outcome = .running
    ∧ (t.outcome = .running
      ∨ (∃ code, fetchInstr s = .next (.syscall code)) ∧ s.gpr s.par.syscallNumReg = 0
          ∧ t.outcome = .halted (s.gpr s.par.syscallArg0Reg))

/-- Whatever the instruction: a general register changes only if the instruction names it as a destination (the table of the spec
is derived from its rows; SYSCALL's is decision D20). -/
def Obligations.RegistersChangeOnlyAsDestinations : Prop :=
  ∀ (i : Instr) (s t : State) (q : RegIdx), exec i s = .next t → q ∉ destinations s.par i → t.gpr q = s.gpr q

/-- Only DIV, DIVU, MULT, MULTU, MADDU, MSUBU and MTHI change `hi`, and with MTLO for MTHI the same of `lo` (decision D12 for MUL). -/
def Obligations.HiLoChangeOnlyByTheirWriters : Prop :=
  ∀ (i : Instr) (s t : State), exec i s = .next t →
    (writesHi i = false → t.hi = s.hi) ∧ (writesLo i = false → t.lo = s.lo)

/-- Only the stores, SC and SYSCALL change memory, and every byte an instruction changes is valid for `store` (decisions D21, D26). -/
def Obligations.OnlyStoreValidBytesChange : Prop :=
  ∀ (i : Instr) (s t : State) (a : Word), exec i s = .next t → Memory.read t.mem a.toNat ≠ Memory.read s.mem a.toNat →
    writesMemory i = true ∧ Params.valid s.par .store a = true

/-- Only LL makes a reservation, only SC, a store or a SYSCALL loses one, and every other instruction leaves it alone
(decision D22); after an SC none is held. -/
def Obligations.ReservationChangesOnlyAsStated : Prop :=
  ∀ (i : Instr) (s t : State), exec i s = .next t →
    (keepsReservation i = true → t.llValid = s.llValid ∧ t.llAddr = s.llAddr)
    ∧ (t.llAddr ≠ s.llAddr ∨ (t.llValid = true ∧ s.llValid = false) → ∃ base rt offset, i = .ll base rt offset)
    ∧ (s.llValid = true ∧ t.llValid = false → writesMemory i = true)
    ∧ (∀ base rt offset, i = .sc base rt offset → t.llValid = false)

/-- After a step that leaves the machine running, `ds` is true exactly if the step executed a control transfer, taken or not
(decision D6). -/
def Obligations.DelaySlotFlagFollowsTransfers : Prop :=
  ∀ (i : Instr) (s t : State), exec i s = .next t → s.outcome = .running → t.outcome = .running →
    t.ds = controlTransfer i ∧ t.pc = s.npc

/-- Every step keeps the state invariant `State.wf`: the memory in canonical form, register 0's storage at 0, the parameters'
requirement, the reservation word-aligned, and `npc = pc + 4` outside a delay slot. -/
def Obligations.StepKeepsTheInvariant : Prop :=
  ∀ s t : State, s.wf = true → step s = .next t → t.wf = true

/-- The state after reset meets the invariant. -/
def Obligations.ResetMeetsTheInvariant : Prop := State.reset.wf = true

/-- No run changes a parameter or a byte that is valid for `fetch`: program text is what it was at the start (decisions D24, D26).
Where the model refuses a step the run stands still (log entry 22). -/
def Obligations.ProgramTextNeverChanges : Prop :=
  ∀ (n : Nat) (s : State) (a : Word), Params.disjoint s.par = true → Params.valid s.par .fetch a = true →
    Memory.read (runFor n s).mem a.toNat = Memory.read s.mem a.toNat ∧ (runFor n s).par = s.par

/-- The start state for given start parameters, and the defaults the spec gives the parameters of the reset state (decision D25; the
values of `ENTRY_PC`, `INIT_GPR`, `INIT_HI`, `INIT_LO` at reset are the model's, log entries 2 and 3, and are not stated here). -/
def Obligations.StartState : Prop :=
  (∀ a : StartArgs, (State.start a).pc = a.entryPc ∧ (State.start a).npc = a.entryPc + 4 ∧ (State.start a).ds = false
    ∧ (State.start a).llValid = false ∧ (State.start a).outcome = .running ∧ (State.start a).gpr 0 = 0
    ∧ (∀ r : RegIdx, r ≠ 0 → (State.start a).gpr r = a.gpr[r.toNat]) ∧ (State.start a).hi = a.hi ∧ (State.start a).lo = a.lo
    ∧ (State.start a).mem = a.mem ∧ (State.start a).env = a.env ∧ (State.start a).par = a.par)
  ∧ (∃ a : StartArgs, State.reset = State.start a)
  ∧ State.reset.par.byteOrder = .little ∧ State.reset.par.delaySlotBranch = .fault ∧ State.reset.par.bitfieldRange = .fault
  ∧ State.reset.par.divByZero = .draw ∧ State.reset.par.scPolicy = .guarded ∧ State.reset.par.syscallNumReg = 2
  ∧ State.reset.par.syscallArg0Reg = 4 ∧ State.reset.par.syscallArg1Reg = 5 ∧ State.reset.par.syscallRetReg = 2
end

