-- ==== Sys2Proof/Laws/Decode.lean ====
section
/-! SUPPORT. The fields of an encoded word, masking as an operation on cells, and the disjointness of the opcode table
(30_encoding.md R81, R109). -/

namespace Sys2Proof

/-! ## Reading a field of a word of format R, I or J -/

section Fields

variable (op : BitVec 6) (rs rt rd shamt : BitVec 5) (func : BitVec 6) (imm : BitVec 16) (index : BitVec 26)

@[simp] theorem fieldOp_encR : fieldOp (encR op rs rt rd shamt func) = op := by
  apply BitVec.eq_of_getLsbD_eq
  intro i hi
  simp only [fieldOp, encR, BitVec.getLsbD_extractLsb', BitVec.getLsbD_append]
  simp (disch := omega) only [hi, decide_true, Bool.true_and, if_neg]
  all_goals first | omega | (congr 1; omega)

@[simp] theorem fieldRs_encR : fieldRs (encR op rs rt rd shamt func) = rs := by
  apply BitVec.eq_of_getLsbD_eq
  intro i hi
  simp only [fieldRs, encR, BitVec.getLsbD_extractLsb', BitVec.getLsbD_append]
  simp (disch := omega) only [hi, decide_true, Bool.true_and, if_neg, if_pos]
  all_goals first | omega | (congr 1; omega)

@[simp] theorem fieldRt_encR : fieldRt (encR op rs rt rd shamt func) = rt := by
  apply BitVec.eq_of_getLsbD_eq
  intro i hi
  simp only [fieldRt, encR, BitVec.getLsbD_extractLsb', BitVec.getLsbD_append]
  simp (disch := omega) only [hi, decide_true, Bool.true_and, if_neg, if_pos]
  all_goals first | omega | (congr 1; omega)

@[simp] theorem fieldRd_encR : fieldRd (encR op rs rt rd shamt func) = rd := by
  apply BitVec.eq_of_getLsbD_eq
  intro i hi
  simp only [fieldRd, encR, BitVec.getLsbD_extractLsb', BitVec.getLsbD_append]
  simp (disch := omega) only [hi, decide_true, Bool.true_and, if_neg, if_pos]
  all_goals first | omega | (congr 1; omega)

@[simp] theorem fieldShamt_encR : fieldShamt (encR op rs rt rd shamt func) = shamt := by
  apply BitVec.eq_of_getLsbD_eq
  intro i hi
  simp only [fieldShamt, encR, BitVec.getLsbD_extractLsb', BitVec.getLsbD_append]
  simp (disch := omega) only [hi, decide_true, Bool.true_and, if_neg, if_pos]
  all_goals first | omega | (congr 1; omega)

@[simp] theorem fieldFunc_encR : fieldFunc (encR op rs rt rd shamt func) = func := by
  apply BitVec.eq_of_getLsbD_eq
  intro i hi
  simp only [fieldFunc, encR, BitVec.getLsbD_extractLsb', BitVec.getLsbD_append]
  simp (disch := omega) only [hi, decide_true, Bool.true_and, if_pos]
  all_goals first | omega | (congr 1; omega)

@[simp] theorem fieldOp_encI : fieldOp (encI op rs rt imm) = op := by
  apply BitVec.eq_of_getLsbD_eq
  intro i hi
  simp only [fieldOp, encI, BitVec.getLsbD_extractLsb', BitVec.getLsbD_append]
  simp (disch := omega) only [hi, decide_true, Bool.true_and, if_neg]
  all_goals first | omega | (congr 1; omega)

@[simp] theorem fieldRs_encI : fieldRs (encI op rs rt imm) = rs := by
  apply BitVec.eq_of_getLsbD_eq
  intro i hi
  simp only [fieldRs, encI, BitVec.getLsbD_extractLsb', BitVec.getLsbD_append]
  simp (disch := omega) only [hi, decide_true, Bool.true_and, if_neg, if_pos]
  all_goals first | omega | (congr 1; omega)

@[simp] theorem fieldRt_encI : fieldRt (encI op rs rt imm) = rt := by
  apply BitVec.eq_of_getLsbD_eq
  intro i hi
  simp only [fieldRt, encI, BitVec.getLsbD_extractLsb', BitVec.getLsbD_append]
  simp (disch := omega) only [hi, decide_true, Bool.true_and, if_neg, if_pos]
  all_goals first | omega | (congr 1; omega)

@[simp] theorem fieldImm_encI : fieldImm (encI op rs rt imm) = imm := by
  apply BitVec.eq_of_getLsbD_eq
  intro i hi
  simp only [fieldImm, encI, BitVec.getLsbD_extractLsb', BitVec.getLsbD_append]
  simp (disch := omega) only [hi, decide_true, Bool.true_and, if_pos]
  all_goals first | omega | (congr 1; omega)

@[simp] theorem fieldOp_encJ : fieldOp (encJ op index) = op := by
  apply BitVec.eq_of_getLsbD_eq
  intro i hi
  simp only [fieldOp, encJ, BitVec.getLsbD_extractLsb', BitVec.getLsbD_append]
  simp (disch := omega) only [hi, decide_true, Bool.true_and, if_neg]
  all_goals first | omega | (congr 1; omega)

@[simp] theorem fieldIndex_encJ : fieldIndex (encJ op index) = index := by
  apply BitVec.eq_of_getLsbD_eq
  intro i hi
  simp only [fieldIndex, encJ, BitVec.getLsbD_extractLsb', BitVec.getLsbD_append]
  simp (disch := omega) only [hi, decide_true, Bool.true_and, if_pos]
  all_goals first | omega | (congr 1; omega)

end Fields

/-! ## The two rows with a `code` field -/

@[simp] theorem fieldCode20_append (op func : BitVec 6) (code : BitVec 20) :
    fieldCode20 (op ++ code ++ func : BitVec (6 + 20 + 6)) = code := by
  apply BitVec.eq_of_getLsbD_eq
  intro i hi
  simp only [fieldCode20, BitVec.getLsbD_extractLsb', BitVec.getLsbD_append]
  simp (disch := omega) only [hi, decide_true, Bool.true_and, if_neg, if_pos]
  all_goals first | omega | (congr 1; omega)

@[simp] theorem fieldCode10_append (op func : BitVec 6) (rs rt : BitVec 5) (code : BitVec 10) :
    fieldCode10 (op ++ rs ++ rt ++ code ++ func : BitVec (6 + 5 + 5 + 10 + 6)) = code := by
  apply BitVec.eq_of_getLsbD_eq
  intro i hi
  simp only [fieldCode10, BitVec.getLsbD_extractLsb', BitVec.getLsbD_append]
  simp (disch := omega) only [hi, decide_true, Bool.true_and, if_neg, if_pos]
  all_goals first | omega | (congr 1; omega)

@[simp] theorem fieldRs_append (op func : BitVec 6) (rs rt : BitVec 5) (code : BitVec 10) :
    fieldRs (op ++ rs ++ rt ++ code ++ func : BitVec (6 + 5 + 5 + 10 + 6)) = rs := by
  apply BitVec.eq_of_getLsbD_eq
  intro i hi
  simp only [fieldRs, BitVec.getLsbD_extractLsb', BitVec.getLsbD_append]
  simp (disch := omega) only [hi, decide_true, Bool.true_and, if_neg, if_pos]
  all_goals first | omega | (congr 1; omega)

@[simp] theorem fieldRt_append (op func : BitVec 6) (rs rt : BitVec 5) (code : BitVec 10) :
    fieldRt (op ++ rs ++ rt ++ code ++ func : BitVec (6 + 5 + 5 + 10 + 6)) = rt := by
  apply BitVec.eq_of_getLsbD_eq
  intro i hi
  simp only [fieldRt, BitVec.getLsbD_extractLsb', BitVec.getLsbD_append]
  simp (disch := omega) only [hi, decide_true, Bool.true_and, if_neg, if_pos]
  all_goals first | omega | (congr 1; omega)

/-! ## Masking acts cell by cell -/

theorem encR_and (op op' : BitVec 6) (rs rs' rt rt' rd rd' shamt shamt' : BitVec 5) (func func' : BitVec 6) :
    encR op rs rt rd shamt func &&& encR op' rs' rt' rd' shamt' func'
      = encR (op &&& op') (rs &&& rs') (rt &&& rt') (rd &&& rd') (shamt &&& shamt') (func &&& func') := by
  simp only [encR, ← BitVec.and_append]

theorem encI_and (op op' : BitVec 6) (rs rs' rt rt' : BitVec 5) (imm imm' : BitVec 16) :
    encI op rs rt imm &&& encI op' rs' rt' imm'
      = encI (op &&& op') (rs &&& rs') (rt &&& rt') (imm &&& imm') := by
  simp only [encI, ← BitVec.and_append]

theorem encJ_and (op op' : BitVec 6) (index index' : BitVec 26) :
    encJ op index &&& encJ op' index' = encJ (op &&& op') (index &&& index') := by
  simp only [encJ, ← BitVec.and_append]

end Sys2Proof
end

