-- ==== Sys2Proof/Laws/Memory.lean ====
section
/-! SUPPORT. The laws of the memory: a read after a write (20_memory.md R63), and the canonical form, which every memory operation
keeps. -/

namespace Sys2Proof.Machine

/-! ## Reading after writing -/

theorem add_ofNat_succ (start : Word) (i : Nat) : start + BitVec.ofNat 32 (i + 1) = start + 1 + BitVec.ofNat 32 i := by
  apply BitVec.eq_of_toNat_eq
  simp only [BitVec.toNat_add, BitVec.toNat_ofNat, show (1 : BitVec 32).toNat = 1 from rfl]
  omega

@[simp] theorem Memory.read_write_same (m : Memory) (a : Nat) (b : Byte) : Memory.read (Memory.write m a b) a = some b := by
  induction m with
  | nil => simp [Memory.write, Memory.read]
  | cons c rest ih =>
    unfold Memory.write
    split
    · simp [Memory.read]
    · split
      · simp [Memory.read]
      · simp [Memory.read, *]

@[simp] theorem Memory.read_write_other (m : Memory) {a c : Nat} (b : Byte) (h : c ≠ a) :
    Memory.read (Memory.write m a b) c = Memory.read m c := by
  induction m with
  | nil => simp [Memory.write, Memory.read, h]
  | cons d rest ih =>
    unfold Memory.write
    split
    · simp [Memory.read, h]
    · split
      · rename_i e; subst e; simp [Memory.read, h]
      · simp [Memory.read, ih]

/-- A byte outside the `bs.length` addresses from `start` reads as before. -/
theorem Memory.read_writeBytes_other (bs : List Byte) (m : Memory) (start : Word) (c : Nat)
    (h : ∀ i < bs.length, (start + BitVec.ofNat 32 i).toNat ≠ c) :
    Memory.read (Memory.writeBytes m start bs) c = Memory.read m c := by
  induction bs generalizing m start with
  | nil => rfl
  | cons b rest ih =>
    rw [Memory.writeBytes, ih, Memory.read_write_other]
    · have := h 0 (by simp)
      simp at this
      exact fun e => this e.symm
    · intro i hi
      have := h (i + 1) (by simpa using hi)
      rwa [← add_ofNat_succ]

/-- The byte `i` from `start` reads as the byte `i` written there. -/
theorem Memory.read_writeBytes_at (bs : List Byte) (m : Memory) (start : Word) (hlen : bs.length ≤ 2 ^ 32) (i : Nat)
    (hi : i < bs.length) :
    Memory.read (Memory.writeBytes m start bs) (start + BitVec.ofNat 32 i).toNat = some bs[i] := by
  induction bs generalizing m start i with
  | nil => simp at hi
  | cons b rest ih =>
    rw [List.length_cons] at hlen hi
    cases i with
    | zero =>
      rw [Memory.writeBytes, Memory.read_writeBytes_other]
      · simp
      · intro j hj
        have : start.toNat < 2 ^ 32 := start.isLt
        simp only [BitVec.toNat_add, BitVec.toNat_ofNat]
        rw [show (1 : BitVec 32).toNat = 1 from rfl]
        omega
    | succ k =>
      rw [Memory.writeBytes, add_ofNat_succ]
      simpa using ih (Memory.write m start.toNat b) (start + 1) (by omega) k (by omega)

/-- A byte that no cell names reads as before. -/
theorem Memory.read_writeCells_other (cells : List (Word × Byte)) (m : Memory) (c : Nat)
    (h : ∀ w ∈ cells, w.1.toNat ≠ c) : Memory.read (Memory.writeCells m cells) c = Memory.read m c := by
  induction cells generalizing m with
  | nil => rfl
  | cons d rest ih =>
    rw [Memory.writeCells, ih _ fun w hw => h w (List.mem_cons_of_mem _ hw)]
    exact Memory.read_write_other _ _ (h d (List.mem_cons_self ..)).symm

/-! ## The canonical form -/

theorem Memory.risesFrom_mono {m : Memory} {k l : Nat} (h : Memory.risesFrom l m = true) (hkl : k ≤ l) :
    Memory.risesFrom k m = true := by
  cases m with
  | nil => rfl
  | cons c rest =>
    simp only [Memory.risesFrom, Bool.and_eq_true, decide_eq_true_eq] at h ⊢
    exact ⟨⟨by omega, h.1.2⟩, h.2⟩

/-- Below the least address of a canonical memory no byte is listed. -/
theorem Memory.read_below {m : Memory} {l a : Nat} (h : Memory.risesFrom l m = true) (ha : a < l) :
    Memory.read m a = none := by
  induction m generalizing l with
  | nil => rfl
  | cons c rest ih =>
    simp only [Memory.risesFrom, Bool.and_eq_true, decide_eq_true_eq] at h
    rw [Memory.read, if_neg (by omega)]
    exact ih h.2 (by omega)

theorem Memory.risesFrom_write {m : Memory} {l a : Nat} (b : Byte) (h : Memory.risesFrom l m = true) (hl : l ≤ a)
    (ha : a < 2 ^ 32) : Memory.risesFrom l (Memory.write m a b) = true := by
  induction m generalizing l with
  | nil => simp [Memory.write, Memory.risesFrom]; omega
  | cons c rest ih =>
    simp only [Memory.risesFrom, Bool.and_eq_true, decide_eq_true_eq] at h
    unfold Memory.write
    split
    · simp only [Memory.risesFrom, Bool.and_eq_true, decide_eq_true_eq]
      exact ⟨⟨hl, ha⟩, ⟨by omega, h.1.2⟩, h.2⟩
    · split
      · rename_i e; subst e
        simp only [Memory.risesFrom, Bool.and_eq_true, decide_eq_true_eq]
        exact h
      · simp only [Memory.risesFrom, Bool.and_eq_true, decide_eq_true_eq]
        exact ⟨h.1, ih h.2 (by omega)⟩

/-- A write keeps the canonical form. -/
theorem Memory.wf_write {m : Memory} (h : Memory.wf m = true) (a : Word) (b : Byte) :
    Memory.wf (Memory.write m a.toNat b) = true :=
  Memory.risesFrom_write b h (Nat.zero_le _) a.isLt

theorem Memory.wf_writeBytes {m : Memory} (h : Memory.wf m = true) (start : Word) (bs : List Byte) :
    Memory.wf (Memory.writeBytes m start bs) = true := by
  induction bs generalizing m start with
  | nil => exact h
  | cons b rest ih => exact ih (Memory.wf_write h start b) _

theorem Memory.wf_writeCells {m : Memory} (h : Memory.wf m = true) (cells : List (Word × Byte)) :
    Memory.wf (Memory.writeCells m cells) = true := by
  induction cells generalizing m with
  | nil => exact h
  | cons c rest ih => exact ih (Memory.wf_write h c.1 c.2)

theorem Memory.risesFrom_ext {l : Nat} {m n : Memory} (hm : Memory.risesFrom l m = true) (hn : Memory.risesFrom l n = true)
    (h : ∀ a, Memory.read m a = Memory.read n a) : m = n := by
  induction m generalizing l n with
  | nil =>
    cases n with
    | nil => rfl
    | cons d ns => have := h d.1; simp [Memory.read] at this
  | cons c ms ih =>
    cases n with
    | nil => have := h c.1; simp [Memory.read] at this
    | cons d ns =>
      obtain ⟨a, b⟩ := c
      obtain ⟨a', b'⟩ := d
      simp only [Memory.risesFrom, Bool.and_eq_true, decide_eq_true_eq] at hm hn
      have haa : a = a' := by
        rcases Nat.lt_trichotomy a a' with hlt | heq | hlt
        · have := h a
          rw [Memory.read, if_pos rfl, Memory.read, if_neg (by omega), Memory.read_below hn.2 (by omega)] at this
          cases this
        · exact heq
        · have := h a'
          rw [Memory.read, if_neg (by omega), Memory.read, if_pos rfl, Memory.read_below hm.2 (by omega)] at this
          cases this
      subst haa
      have hb := h a
      simp only [Memory.read, if_true, Option.some.injEq] at hb
      subst hb
      congr 1
      refine ih hm.2 hn.2 fun x => ?_
      by_cases hx : x = a
      · subst hx; rw [Memory.read_below hm.2 (by omega), Memory.read_below hn.2 (by omega)]
      · simpa [Memory.read, hx] using h x

/-- Canonical memories that read alike are equal as data. -/
theorem Memory.ext_of_wf {m n : Memory} (hm : Memory.wf m = true) (hn : Memory.wf n = true)
    (h : ∀ a, Memory.read m a = Memory.read n a) : m = n :=
  Memory.risesFrom_ext hm hn h

theorem State.reset_mem_wf : Memory.wf State.reset.mem = true := rfl

end Sys2Proof.Machine
end

