-- ==== Sys2Proof/Laws/State.lean ====
section
/-! SUPPORT. One lemma per field of the state for every named update of Machine/Ops.lean, and the laws of reading and writing a
general register (10_state.md R23). -/

namespace Sys2Proof.Machine

variable (s : State)

/-! ## `State.setHi` -/

@[simp] theorem State.setHi_regs (v : Word) : (s.setHi v).regs = s.regs := rfl
@[simp] theorem State.setHi_hi (v : Word) : (s.setHi v).hi = v := rfl
@[simp] theorem State.setHi_lo (v : Word) : (s.setHi v).lo = s.lo := rfl
@[simp] theorem State.setHi_pc (v : Word) : (s.setHi v).pc = s.pc := rfl
@[simp] theorem State.setHi_npc (v : Word) : (s.setHi v).npc = s.npc := rfl
@[simp] theorem State.setHi_ds (v : Word) : (s.setHi v).ds = s.ds := rfl
@[simp] theorem State.setHi_llValid (v : Word) : (s.setHi v).llValid = s.llValid := rfl
@[simp] theorem State.setHi_llAddr (v : Word) : (s.setHi v).llAddr = s.llAddr := rfl
@[simp] theorem State.setHi_mem (v : Word) : (s.setHi v).mem = s.mem := rfl
@[simp] theorem State.setHi_outcome (v : Word) : (s.setHi v).outcome = s.outcome := rfl
@[simp] theorem State.setHi_env (v : Word) : (s.setHi v).env = s.env := rfl
@[simp] theorem State.setHi_replies (v : Word) : (s.setHi v).replies = s.replies := rfl
@[simp] theorem State.setHi_draws (v : Word) : (s.setHi v).draws = s.draws := rfl
@[simp] theorem State.setHi_par (v : Word) : (s.setHi v).par = s.par := rfl
@[simp] theorem State.setHi_gpr (v : Word) (r : RegIdx) : (s.setHi v).gpr r = s.gpr r := rfl

/-! ## `State.setLo` -/

@[simp] theorem State.setLo_regs (v : Word) : (s.setLo v).regs = s.regs := rfl
@[simp] theorem State.setLo_hi (v : Word) : (s.setLo v).hi = s.hi := rfl
@[simp] theorem State.setLo_lo (v : Word) : (s.setLo v).lo = v := rfl
@[simp] theorem State.setLo_pc (v : Word) : (s.setLo v).pc = s.pc := rfl
@[simp] theorem State.setLo_npc (v : Word) : (s.setLo v).npc = s.npc := rfl
@[simp] theorem State.setLo_ds (v : Word) : (s.setLo v).ds = s.ds := rfl
@[simp] theorem State.setLo_llValid (v : Word) : (s.setLo v).llValid = s.llValid := rfl
@[simp] theorem State.setLo_llAddr (v : Word) : (s.setLo v).llAddr = s.llAddr := rfl
@[simp] theorem State.setLo_mem (v : Word) : (s.setLo v).mem = s.mem := rfl
@[simp] theorem State.setLo_outcome (v : Word) : (s.setLo v).outcome = s.outcome := rfl
@[simp] theorem State.setLo_env (v : Word) : (s.setLo v).env = s.env := rfl
@[simp] theorem State.setLo_replies (v : Word) : (s.setLo v).replies = s.replies := rfl
@[simp] theorem State.setLo_draws (v : Word) : (s.setLo v).draws = s.draws := rfl
@[simp] theorem State.setLo_par (v : Word) : (s.setLo v).par = s.par := rfl
@[simp] theorem State.setLo_gpr (v : Word) (r : RegIdx) : (s.setLo v).gpr r = s.gpr r := rfl

/-! ## `State.setHiLo` -/

@[simp] theorem State.setHiLo_regs (v : BitVec 64) : (s.setHiLo v).regs = s.regs := rfl
@[simp] theorem State.setHiLo_hi (v : BitVec 64) : (s.setHiLo v).hi = v.extractLsb' 32 32 := rfl
@[simp] theorem State.setHiLo_lo (v : BitVec 64) : (s.setHiLo v).lo = v.extractLsb' 0 32 := rfl
@[simp] theorem State.setHiLo_pc (v : BitVec 64) : (s.setHiLo v).pc = s.pc := rfl
@[simp] theorem State.setHiLo_npc (v : BitVec 64) : (s.setHiLo v).npc = s.npc := rfl
@[simp] theorem State.setHiLo_ds (v : BitVec 64) : (s.setHiLo v).ds = s.ds := rfl
@[simp] theorem State.setHiLo_llValid (v : BitVec 64) : (s.setHiLo v).llValid = s.llValid := rfl
@[simp] theorem State.setHiLo_llAddr (v : BitVec 64) : (s.setHiLo v).llAddr = s.llAddr := rfl
@[simp] theorem State.setHiLo_mem (v : BitVec 64) : (s.setHiLo v).mem = s.mem := rfl
@[simp] theorem State.setHiLo_outcome (v : BitVec 64) : (s.setHiLo v).outcome = s.outcome := rfl
@[simp] theorem State.setHiLo_env (v : BitVec 64) : (s.setHiLo v).env = s.env := rfl
@[simp] theorem State.setHiLo_replies (v : BitVec 64) : (s.setHiLo v).replies = s.replies := rfl
@[simp] theorem State.setHiLo_draws (v : BitVec 64) : (s.setHiLo v).draws = s.draws := rfl
@[simp] theorem State.setHiLo_par (v : BitVec 64) : (s.setHiLo v).par = s.par := rfl
@[simp] theorem State.setHiLo_gpr (v : BitVec 64) (r : RegIdx) : (s.setHiLo v).gpr r = s.gpr r := rfl

/-! ## `State.advance` -/

@[simp] theorem State.advance_regs : (s.advance).regs = s.regs := rfl
@[simp] theorem State.advance_hi : (s.advance).hi = s.hi := rfl
@[simp] theorem State.advance_lo : (s.advance).lo = s.lo := rfl
@[simp] theorem State.advance_pc : (s.advance).pc = s.npc := rfl
@[simp] theorem State.advance_npc : (s.advance).npc = s.npc + 4 := rfl
@[simp] theorem State.advance_ds : (s.advance).ds = false := rfl
@[simp] theorem State.advance_llValid : (s.advance).llValid = s.llValid := rfl
@[simp] theorem State.advance_llAddr : (s.advance).llAddr = s.llAddr := rfl
@[simp] theorem State.advance_mem : (s.advance).mem = s.mem := rfl
@[simp] theorem State.advance_outcome : (s.advance).outcome = s.outcome := rfl
@[simp] theorem State.advance_env : (s.advance).env = s.env := rfl
@[simp] theorem State.advance_replies : (s.advance).replies = s.replies := rfl
@[simp] theorem State.advance_draws : (s.advance).draws = s.draws := rfl
@[simp] theorem State.advance_par : (s.advance).par = s.par := rfl
@[simp] theorem State.advance_gpr (r : RegIdx) : (s.advance).gpr r = s.gpr r := rfl

/-! ## `State.branchTo` -/

@[simp] theorem State.branchTo_regs (t : Word) : (s.branchTo t).regs = s.regs := rfl
@[simp] theorem State.branchTo_hi (t : Word) : (s.branchTo t).hi = s.hi := rfl
@[simp] theorem State.branchTo_lo (t : Word) : (s.branchTo t).lo = s.lo := rfl
@[simp] theorem State.branchTo_pc (t : Word) : (s.branchTo t).pc = s.npc := rfl
@[simp] theorem State.branchTo_npc (t : Word) : (s.branchTo t).npc = t := rfl
@[simp] theorem State.branchTo_ds (t : Word) : (s.branchTo t).ds = true := rfl
@[simp] theorem State.branchTo_llValid (t : Word) : (s.branchTo t).llValid = s.llValid := rfl
@[simp] theorem State.branchTo_llAddr (t : Word) : (s.branchTo t).llAddr = s.llAddr := rfl
@[simp] theorem State.branchTo_mem (t : Word) : (s.branchTo t).mem = s.mem := rfl
@[simp] theorem State.branchTo_outcome (t : Word) : (s.branchTo t).outcome = s.outcome := rfl
@[simp] theorem State.branchTo_env (t : Word) : (s.branchTo t).env = s.env := rfl
@[simp] theorem State.branchTo_replies (t : Word) : (s.branchTo t).replies = s.replies := rfl
@[simp] theorem State.branchTo_draws (t : Word) : (s.branchTo t).draws = s.draws := rfl
@[simp] theorem State.branchTo_par (t : Word) : (s.branchTo t).par = s.par := rfl
@[simp] theorem State.branchTo_gpr (t : Word) (r : RegIdx) : (s.branchTo t).gpr r = s.gpr r := rfl

/-! ## `State.fallThrough` -/

@[simp] theorem State.fallThrough_regs : (s.fallThrough).regs = s.regs := rfl
@[simp] theorem State.fallThrough_hi : (s.fallThrough).hi = s.hi := rfl
@[simp] theorem State.fallThrough_lo : (s.fallThrough).lo = s.lo := rfl
@[simp] theorem State.fallThrough_pc : (s.fallThrough).pc = s.npc := rfl
@[simp] theorem State.fallThrough_npc : (s.fallThrough).npc = s.npc + 4 := rfl
@[simp] theorem State.fallThrough_ds : (s.fallThrough).ds = true := rfl
@[simp] theorem State.fallThrough_llValid : (s.fallThrough).llValid = s.llValid := rfl
@[simp] theorem State.fallThrough_llAddr : (s.fallThrough).llAddr = s.llAddr := rfl
@[simp] theorem State.fallThrough_mem : (s.fallThrough).mem = s.mem := rfl
@[simp] theorem State.fallThrough_outcome : (s.fallThrough).outcome = s.outcome := rfl
@[simp] theorem State.fallThrough_env : (s.fallThrough).env = s.env := rfl
@[simp] theorem State.fallThrough_replies : (s.fallThrough).replies = s.replies := rfl
@[simp] theorem State.fallThrough_draws : (s.fallThrough).draws = s.draws := rfl
@[simp] theorem State.fallThrough_par : (s.fallThrough).par = s.par := rfl
@[simp] theorem State.fallThrough_gpr (r : RegIdx) : (s.fallThrough).gpr r = s.gpr r := rfl

/-! ## `State.reserve` -/

@[simp] theorem State.reserve_regs (a : Word) : (s.reserve a).regs = s.regs := rfl
@[simp] theorem State.reserve_hi (a : Word) : (s.reserve a).hi = s.hi := rfl
@[simp] theorem State.reserve_lo (a : Word) : (s.reserve a).lo = s.lo := rfl
@[simp] theorem State.reserve_pc (a : Word) : (s.reserve a).pc = s.pc := rfl
@[simp] theorem State.reserve_npc (a : Word) : (s.reserve a).npc = s.npc := rfl
@[simp] theorem State.reserve_ds (a : Word) : (s.reserve a).ds = s.ds := rfl
@[simp] theorem State.reserve_llValid (a : Word) : (s.reserve a).llValid = true := rfl
@[simp] theorem State.reserve_llAddr (a : Word) : (s.reserve a).llAddr = a := rfl
@[simp] theorem State.reserve_mem (a : Word) : (s.reserve a).mem = s.mem := rfl
@[simp] theorem State.reserve_outcome (a : Word) : (s.reserve a).outcome = s.outcome := rfl
@[simp] theorem State.reserve_env (a : Word) : (s.reserve a).env = s.env := rfl
@[simp] theorem State.reserve_replies (a : Word) : (s.reserve a).replies = s.replies := rfl
@[simp] theorem State.reserve_draws (a : Word) : (s.reserve a).draws = s.draws := rfl
@[simp] theorem State.reserve_par (a : Word) : (s.reserve a).par = s.par := rfl
@[simp] theorem State.reserve_gpr (a : Word) (r : RegIdx) : (s.reserve a).gpr r = s.gpr r := rfl

/-! ## `State.clearReservation` -/

@[simp] theorem State.clearReservation_regs : (s.clearReservation).regs = s.regs := rfl
@[simp] theorem State.clearReservation_hi : (s.clearReservation).hi = s.hi := rfl
@[simp] theorem State.clearReservation_lo : (s.clearReservation).lo = s.lo := rfl
@[simp] theorem State.clearReservation_pc : (s.clearReservation).pc = s.pc := rfl
@[simp] theorem State.clearReservation_npc : (s.clearReservation).npc = s.npc := rfl
@[simp] theorem State.clearReservation_ds : (s.clearReservation).ds = s.ds := rfl
@[simp] theorem State.clearReservation_llValid : (s.clearReservation).llValid = false := rfl
@[simp] theorem State.clearReservation_llAddr : (s.clearReservation).llAddr = s.llAddr := rfl
@[simp] theorem State.clearReservation_mem : (s.clearReservation).mem = s.mem := rfl
@[simp] theorem State.clearReservation_outcome : (s.clearReservation).outcome = s.outcome := rfl
@[simp] theorem State.clearReservation_env : (s.clearReservation).env = s.env := rfl
@[simp] theorem State.clearReservation_replies : (s.clearReservation).replies = s.replies := rfl
@[simp] theorem State.clearReservation_draws : (s.clearReservation).draws = s.draws := rfl
@[simp] theorem State.clearReservation_par : (s.clearReservation).par = s.par := rfl
@[simp] theorem State.clearReservation_gpr (r : RegIdx) : (s.clearReservation).gpr r = s.gpr r := rfl

/-! ## `State.drawn` -/

@[simp] theorem State.drawn_regs : (s.drawn).regs = s.regs := rfl
@[simp] theorem State.drawn_hi : (s.drawn).hi = s.hi := rfl
@[simp] theorem State.drawn_lo : (s.drawn).lo = s.lo := rfl
@[simp] theorem State.drawn_pc : (s.drawn).pc = s.pc := rfl
@[simp] theorem State.drawn_npc : (s.drawn).npc = s.npc := rfl
@[simp] theorem State.drawn_ds : (s.drawn).ds = s.ds := rfl
@[simp] theorem State.drawn_llValid : (s.drawn).llValid = s.llValid := rfl
@[simp] theorem State.drawn_llAddr : (s.drawn).llAddr = s.llAddr := rfl
@[simp] theorem State.drawn_mem : (s.drawn).mem = s.mem := rfl
@[simp] theorem State.drawn_outcome : (s.drawn).outcome = s.outcome := rfl
@[simp] theorem State.drawn_env : (s.drawn).env = s.env := rfl
@[simp] theorem State.drawn_replies : (s.drawn).replies = s.replies := rfl
@[simp] theorem State.drawn_draws : (s.drawn).draws = s.draws + 1 := rfl
@[simp] theorem State.drawn_par : (s.drawn).par = s.par := rfl
@[simp] theorem State.drawn_gpr (r : RegIdx) : (s.drawn).gpr r = s.gpr r := rfl

/-! ## `State.halt` -/

@[simp] theorem State.halt_regs (code : Word) : (s.halt code).regs = s.regs := rfl
@[simp] theorem State.halt_hi (code : Word) : (s.halt code).hi = s.hi := rfl
@[simp] theorem State.halt_lo (code : Word) : (s.halt code).lo = s.lo := rfl
@[simp] theorem State.halt_pc (code : Word) : (s.halt code).pc = s.pc := rfl
@[simp] theorem State.halt_npc (code : Word) : (s.halt code).npc = s.npc := rfl
@[simp] theorem State.halt_ds (code : Word) : (s.halt code).ds = s.ds := rfl
@[simp] theorem State.halt_llValid (code : Word) : (s.halt code).llValid = s.llValid := rfl
@[simp] theorem State.halt_llAddr (code : Word) : (s.halt code).llAddr = s.llAddr := rfl
@[simp] theorem State.halt_mem (code : Word) : (s.halt code).mem = s.mem := rfl
@[simp] theorem State.halt_outcome (code : Word) : (s.halt code).outcome = .halted code := rfl
@[simp] theorem State.halt_env (code : Word) : (s.halt code).env = s.env := rfl
@[simp] theorem State.halt_replies (code : Word) : (s.halt code).replies = s.replies := rfl
@[simp] theorem State.halt_draws (code : Word) : (s.halt code).draws = s.draws := rfl
@[simp] theorem State.halt_par (code : Word) : (s.halt code).par = s.par := rfl
@[simp] theorem State.halt_gpr (code : Word) (r : RegIdx) : (s.halt code).gpr r = s.gpr r := rfl

/-! ## `State.takeFault` -/

@[simp] theorem State.takeFault_regs (f : Fault) : (s.takeFault f).regs = s.regs := rfl
@[simp] theorem State.takeFault_hi (f : Fault) : (s.takeFault f).hi = s.hi := rfl
@[simp] theorem State.takeFault_lo (f : Fault) : (s.takeFault f).lo = s.lo := rfl
@[simp] theorem State.takeFault_pc (f : Fault) : (s.takeFault f).pc = s.pc := rfl
@[simp] theorem State.takeFault_npc (f : Fault) : (s.takeFault f).npc = s.npc := rfl
@[simp] theorem State.takeFault_ds (f : Fault) : (s.takeFault f).ds = s.ds := rfl
@[simp] theorem State.takeFault_llValid (f : Fault) : (s.takeFault f).llValid = s.llValid := rfl
@[simp] theorem State.takeFault_llAddr (f : Fault) : (s.takeFault f).llAddr = s.llAddr := rfl
@[simp] theorem State.takeFault_mem (f : Fault) : (s.takeFault f).mem = s.mem := rfl
@[simp] theorem State.takeFault_outcome (f : Fault) : (s.takeFault f).outcome = .fault f := rfl
@[simp] theorem State.takeFault_env (f : Fault) : (s.takeFault f).env = s.env := rfl
@[simp] theorem State.takeFault_replies (f : Fault) : (s.takeFault f).replies = s.replies := rfl
@[simp] theorem State.takeFault_draws (f : Fault) : (s.takeFault f).draws = s.draws := rfl
@[simp] theorem State.takeFault_par (f : Fault) : (s.takeFault f).par = s.par := rfl
@[simp] theorem State.takeFault_gpr (f : Fault) (r : RegIdx) : (s.takeFault f).gpr r = s.gpr r := rfl

/-! ## `State.storeBytes` -/

@[simp] theorem State.storeBytes_regs (start : Word) (bs : List Byte) : (s.storeBytes start bs).regs = s.regs := rfl
@[simp] theorem State.storeBytes_hi (start : Word) (bs : List Byte) : (s.storeBytes start bs).hi = s.hi := rfl
@[simp] theorem State.storeBytes_lo (start : Word) (bs : List Byte) : (s.storeBytes start bs).lo = s.lo := rfl
@[simp] theorem State.storeBytes_pc (start : Word) (bs : List Byte) : (s.storeBytes start bs).pc = s.pc := rfl
@[simp] theorem State.storeBytes_npc (start : Word) (bs : List Byte) : (s.storeBytes start bs).npc = s.npc := rfl
@[simp] theorem State.storeBytes_ds (start : Word) (bs : List Byte) : (s.storeBytes start bs).ds = s.ds := rfl
@[simp] theorem State.storeBytes_llValid (start : Word) (bs : List Byte) : (s.storeBytes start bs).llValid = (s.llValid && !s.touchesReservation start bs.length) := rfl
@[simp] theorem State.storeBytes_llAddr (start : Word) (bs : List Byte) : (s.storeBytes start bs).llAddr = s.llAddr := rfl
@[simp] theorem State.storeBytes_mem (start : Word) (bs : List Byte) : (s.storeBytes start bs).mem = Memory.writeBytes s.mem start bs := rfl
@[simp] theorem State.storeBytes_outcome (start : Word) (bs : List Byte) : (s.storeBytes start bs).outcome = s.outcome := rfl
@[simp] theorem State.storeBytes_env (start : Word) (bs : List Byte) : (s.storeBytes start bs).env = s.env := rfl
@[simp] theorem State.storeBytes_replies (start : Word) (bs : List Byte) : (s.storeBytes start bs).replies = s.replies := rfl
@[simp] theorem State.storeBytes_draws (start : Word) (bs : List Byte) : (s.storeBytes start bs).draws = s.draws := rfl
@[simp] theorem State.storeBytes_par (start : Word) (bs : List Byte) : (s.storeBytes start bs).par = s.par := rfl
@[simp] theorem State.storeBytes_gpr (start : Word) (bs : List Byte) (r : RegIdx) : (s.storeBytes start bs).gpr r = s.gpr r := rfl

/-! ## `State.served` -/

@[simp] theorem State.served_regs (writes : List (Word × Byte)) (after : Environment) : (s.served writes after).regs = s.regs := rfl
@[simp] theorem State.served_hi (writes : List (Word × Byte)) (after : Environment) : (s.served writes after).hi = s.hi := rfl
@[simp] theorem State.served_lo (writes : List (Word × Byte)) (after : Environment) : (s.served writes after).lo = s.lo := rfl
@[simp] theorem State.served_pc (writes : List (Word × Byte)) (after : Environment) : (s.served writes after).pc = s.pc := rfl
@[simp] theorem State.served_npc (writes : List (Word × Byte)) (after : Environment) : (s.served writes after).npc = s.npc := rfl
@[simp] theorem State.served_ds (writes : List (Word × Byte)) (after : Environment) : (s.served writes after).ds = s.ds := rfl
@[simp] theorem State.served_llValid (writes : List (Word × Byte)) (after : Environment) : (s.served writes after).llValid = s.llValid := rfl
@[simp] theorem State.served_llAddr (writes : List (Word × Byte)) (after : Environment) : (s.served writes after).llAddr = s.llAddr := rfl
@[simp] theorem State.served_mem (writes : List (Word × Byte)) (after : Environment) : (s.served writes after).mem = Memory.writeCells s.mem writes := rfl
@[simp] theorem State.served_outcome (writes : List (Word × Byte)) (after : Environment) : (s.served writes after).outcome = s.outcome := rfl
@[simp] theorem State.served_env (writes : List (Word × Byte)) (after : Environment) : (s.served writes after).env = after := rfl
@[simp] theorem State.served_replies (writes : List (Word × Byte)) (after : Environment) : (s.served writes after).replies = s.replies.tail := rfl
@[simp] theorem State.served_draws (writes : List (Word × Byte)) (after : Environment) : (s.served writes after).draws = s.draws := rfl
@[simp] theorem State.served_par (writes : List (Word × Byte)) (after : Environment) : (s.served writes after).par = s.par := rfl
@[simp] theorem State.served_gpr (writes : List (Word × Byte)) (after : Environment) (r : RegIdx) : (s.served writes after).gpr r = s.gpr r := rfl

/-! ## `State.setGpr` and `State.setReturn` -/

@[simp] theorem State.setGpr_hi (r : RegIdx) (v : Word) : (s.setGpr r v).hi = s.hi := by
  unfold State.setGpr; split <;> rfl
@[simp] theorem State.setGpr_lo (r : RegIdx) (v : Word) : (s.setGpr r v).lo = s.lo := by
  unfold State.setGpr; split <;> rfl
@[simp] theorem State.setGpr_pc (r : RegIdx) (v : Word) : (s.setGpr r v).pc = s.pc := by
  unfold State.setGpr; split <;> rfl
@[simp] theorem State.setGpr_npc (r : RegIdx) (v : Word) : (s.setGpr r v).npc = s.npc := by
  unfold State.setGpr; split <;> rfl
@[simp] theorem State.setGpr_ds (r : RegIdx) (v : Word) : (s.setGpr r v).ds = s.ds := by
  unfold State.setGpr; split <;> rfl
@[simp] theorem State.setGpr_llValid (r : RegIdx) (v : Word) : (s.setGpr r v).llValid = s.llValid := by
  unfold State.setGpr; split <;> rfl
@[simp] theorem State.setGpr_llAddr (r : RegIdx) (v : Word) : (s.setGpr r v).llAddr = s.llAddr := by
  unfold State.setGpr; split <;> rfl
@[simp] theorem State.setGpr_mem (r : RegIdx) (v : Word) : (s.setGpr r v).mem = s.mem := by
  unfold State.setGpr; split <;> rfl
@[simp] theorem State.setGpr_outcome (r : RegIdx) (v : Word) : (s.setGpr r v).outcome = s.outcome := by
  unfold State.setGpr; split <;> rfl
@[simp] theorem State.setGpr_env (r : RegIdx) (v : Word) : (s.setGpr r v).env = s.env := by
  unfold State.setGpr; split <;> rfl
@[simp] theorem State.setGpr_replies (r : RegIdx) (v : Word) : (s.setGpr r v).replies = s.replies := by
  unfold State.setGpr; split <;> rfl
@[simp] theorem State.setGpr_draws (r : RegIdx) (v : Word) : (s.setGpr r v).draws = s.draws := by
  unfold State.setGpr; split <;> rfl
@[simp] theorem State.setGpr_par (r : RegIdx) (v : Word) : (s.setGpr r v).par = s.par := by
  unfold State.setGpr; split <;> rfl
@[simp] theorem State.setReturn_hi (ret : Option Word) : (s.setReturn ret).hi = s.hi := by
  cases ret <;> simp [State.setReturn]
@[simp] theorem State.setReturn_lo (ret : Option Word) : (s.setReturn ret).lo = s.lo := by
  cases ret <;> simp [State.setReturn]
@[simp] theorem State.setReturn_pc (ret : Option Word) : (s.setReturn ret).pc = s.pc := by
  cases ret <;> simp [State.setReturn]
@[simp] theorem State.setReturn_npc (ret : Option Word) : (s.setReturn ret).npc = s.npc := by
  cases ret <;> simp [State.setReturn]
@[simp] theorem State.setReturn_ds (ret : Option Word) : (s.setReturn ret).ds = s.ds := by
  cases ret <;> simp [State.setReturn]
@[simp] theorem State.setReturn_llValid (ret : Option Word) : (s.setReturn ret).llValid = s.llValid := by
  cases ret <;> simp [State.setReturn]
@[simp] theorem State.setReturn_llAddr (ret : Option Word) : (s.setReturn ret).llAddr = s.llAddr := by
  cases ret <;> simp [State.setReturn]
@[simp] theorem State.setReturn_mem (ret : Option Word) : (s.setReturn ret).mem = s.mem := by
  cases ret <;> simp [State.setReturn]
@[simp] theorem State.setReturn_outcome (ret : Option Word) : (s.setReturn ret).outcome = s.outcome := by
  cases ret <;> simp [State.setReturn]
@[simp] theorem State.setReturn_env (ret : Option Word) : (s.setReturn ret).env = s.env := by
  cases ret <;> simp [State.setReturn]
@[simp] theorem State.setReturn_replies (ret : Option Word) : (s.setReturn ret).replies = s.replies := by
  cases ret <;> simp [State.setReturn]
@[simp] theorem State.setReturn_draws (ret : Option Word) : (s.setReturn ret).draws = s.draws := by
  cases ret <;> simp [State.setReturn]
@[simp] theorem State.setReturn_par (ret : Option Word) : (s.setReturn ret).par = s.par := by
  cases ret <;> simp [State.setReturn]

/-! ## The registers -/

@[simp] theorem State.gpr_zero : s.gpr 0#5 = 0#32 := rfl

@[simp] theorem State.setGpr_zero (v : Word) : s.setGpr 0#5 v = s := rfl

@[simp] theorem State.gpr_setGpr_same {r : RegIdx} (h : r ≠ 0#5) (v : Word) : (s.setGpr r v).gpr r = v := by
  unfold State.gpr State.setGpr
  rw [if_neg h, if_neg h, Vector.getElem_set_self]

@[simp] theorem State.gpr_setGpr_other {r q : RegIdx} (h : q ≠ r) (v : Word) : (s.setGpr r v).gpr q = s.gpr q := by
  unfold State.gpr State.setGpr
  split
  · rfl
  · split
    · rfl
    · have hne : r.toNat ≠ q.toNat := fun e => h (BitVec.eq_of_toNat_eq e.symm)
      simp [Vector.getElem_set_ne, hne]

/-- A write to a register changes that register alone, and register 0 not at all (R9, R23). -/
theorem State.gpr_setGpr (r q : RegIdx) (v : Word) :
    (s.setGpr r v).gpr q = if q = r ∧ r ≠ 0#5 then v else s.gpr q := by
  by_cases hq : q = r
  · subst hq
    by_cases h0 : q = 0#5
    · subst h0; simp
    · simp [h0]
  · simp [hq]

/-- The storage of register 0 is never written (R23; log entry 20). -/
@[simp] theorem State.setGpr_regs_zero (r : RegIdx) (v : Word) : (s.setGpr r v).regs[0] = s.regs[0] := by
  unfold State.setGpr
  split
  · rfl
  · have hne : r.toNat ≠ 0 := fun e => by
      rename_i h; exact h (BitVec.eq_of_toNat_eq e)
    simp [Vector.getElem_set_ne, hne]

@[simp] theorem State.setReturn_regs_zero (ret : Option Word) : (s.setReturn ret).regs[0] = s.regs[0] := by
  cases ret <;> simp [State.setReturn]

end Sys2Proof.Machine
end

