-- ==== Sys2Proof/Laws/Ops.lean ====
section
/-! SUPPORT. One lemma per shared operation, which says everything it can do when it answers `next`. -/

namespace Sys2Proof.Machine

/-! ## Sequencing -/

@[simp] theorem andThen_next {α β : Type} (a : α) (k : α → Res β) : andThen (.next a) k = k a := rfl

@[simp] theorem andThen_fault {α β : Type} (f : Fault) (k : α → Res β) : andThen (.fault f) k = .fault f := rfl

@[simp] theorem andThen_refused {α β : Type} (r : Refusal) (k : α → Res β) : andThen (.refused r) k = .refused r := rfl

theorem andThen_eq_next {α β : Type} {x : Res α} {k : α → Res β} {b : β} :
    andThen x k = .next b ↔ ∃ a, x = .next a ∧ k a = .next b := by
  cases x <;> simp

theorem next_eq_next {α : Type} {a b : α} : (Host.Outcome.next a : Res α) = .next b ↔ b = a := by
  simp [eq_comm]

@[simp] theorem raise_ne_next {α : Type} (f : Fault) (a : α) : raise f ≠ Host.Outcome.next a := by
  simp [raise]

/-! ## Checks -/

theorem alignCheck_eq_next {kind : AccessKind} {addr : Word} {n : Nat} {u : Unit} :
    alignCheck kind addr n = .next u ↔ addr.toNat % n = 0 := by
  unfold alignCheck
  split <;> simp [*]

theorem validRange_eq_true {s : State} {kind : AccessKind} {start : Word} {n : Nat} :
    s.validRange kind start n = true ↔ ∀ i < n, Params.valid s.par kind (start + BitVec.ofNat 32 i) = true := by
  simp [State.validRange]

theorem accessCheck_eq_next {s : State} {kind : AccessKind} {addr start : Word} {n : Nat} {u : Unit} :
    accessCheck s kind addr start n = .next u ↔ s.validRange kind start n = true := by
  unfold accessCheck
  split <;> simp [*]

theorem slotCheck_eq_next {s t : State} {k : Res State} :
    slotCheck s k = .next t ↔ ¬(s.ds = true ∧ s.par.delaySlotBranch = .fault) ∧ k = .next t := by
  unfold slotCheck
  split <;> simp [*]

/-! ## Bytes -/

@[simp] theorem toLanes_length (w : Word) : (toLanes w).length = 4 := rfl

@[simp] theorem arrange_length (order : ByteOrder) (bs : List Byte) : (arrange order bs).length = bs.length := by
  cases order <;> simp [arrange]

@[simp] theorem arrange_arrange (order : ByteOrder) (bs : List Byte) : arrange order (arrange order bs) = bs := by
  cases order <;> simp [arrange]

/-- The bytes read are as many as asked for, each the byte listed at its address. -/
theorem readBytes_eq_next {m : Memory} {kind : AccessKind} {start : Word} {n : Nat} {bs : List Byte} :
    readBytes m kind start n = .next bs ↔
      bs.length = n ∧ ∀ i < n, Memory.read m (start + BitVec.ofNat 32 i).toNat = bs[i]? := by
  induction n generalizing start bs with
  | zero => cases bs <;> simp [readBytes]
  | succ n ih =>
    rw [readBytes]
    have h0 : start + BitVec.ofNat 32 0 = start := by simp
    cases hread : Memory.read m start.toNat with
    | none =>
      simp only [reduceCtorEq, false_iff]
      rintro ⟨hlen, h⟩
      have := h 0 (Nat.succ_pos n)
      rw [h0, hread, eq_comm, List.getElem?_eq_none_iff] at this
      omega
    | some b =>
      simp only [andThen_eq_next, ih]
      constructor
      · rintro ⟨cs, ⟨hlen, h⟩, hbs⟩
        cases hbs
        refine ⟨by simp [hlen], fun i hi => ?_⟩
        cases i with
        | zero => rw [h0, hread]; rfl
        | succ i => rw [add_ofNat_succ, h i (by omega)]; rfl
      · rintro ⟨hlen, h⟩
        cases bs with
        | nil => simp at hlen
        | cons c cs =>
          have hc := h 0 (Nat.succ_pos n)
          rw [h0, hread] at hc
          simp only [List.getElem?_cons_zero, Option.some.injEq] at hc
          subst hc
          refine ⟨cs, ⟨by simpa using hlen, fun i hi => ?_⟩, rfl⟩
          have := h (i + 1) (by omega)
          rw [add_ofNat_succ] at this
          simpa using this

/-! ## Memory access -/

theorem loadLanes_eq_next {s : State} {kind : AccessKind} {addr start : Word} {n : Nat} {lanes : List Byte} :
    loadLanes s kind addr start n = .next lanes ↔
      s.validRange kind start n = true ∧ readBytes s.mem kind start n = .next (arrange s.par.byteOrder lanes) := by
  simp only [loadLanes, andThen_eq_next, accessCheck_eq_next, Host.Outcome.next.injEq]
  constructor
  · rintro ⟨_, hv, bs, hbs, rfl⟩; exact ⟨hv, by simpa using hbs⟩
  · rintro ⟨hv, hbs⟩; exact ⟨(), hv, _, hbs, by simp⟩

theorem memRead_eq_next {s : State} {kind : AccessKind} {addr : Word} {n : Nat} {v : Word} :
    memRead s kind addr n = .next v ↔
      addr.toNat % n = 0 ∧ ∃ lanes, loadLanes s kind addr addr n = .next lanes ∧ ofLanes lanes = v := by
  simp [memRead, andThen_eq_next, alignCheck_eq_next]

theorem storeLanes_eq_next {s t : State} {addr start : Word} {lanes : List Byte} :
    storeLanes s addr start lanes = .next t ↔
      s.validRange .store start lanes.length = true ∧ t = s.storeBytes start (arrange s.par.byteOrder lanes) := by
  simp only [storeLanes, andThen_eq_next, accessCheck_eq_next, next_eq_next, exists_and_left, exists_const]

theorem memWrite_eq_next {s t : State} {addr : Word} {n : Nat} {v : Word} :
    memWrite s addr n v = .next t ↔
      addr.toNat % n = 0 ∧ storeLanes s addr addr ((toLanes v).take n) = .next t := by
  simp [memWrite, andThen_eq_next, alignCheck_eq_next]

/-- A byte outside the stored ones reads as before (R57). -/
theorem read_storeBytes_other (s : State) (start : Word) (bs : List Byte) (c : Nat)
    (h : ∀ i < bs.length, (start + BitVec.ofNat 32 i).toNat ≠ c) :
    Memory.read (s.storeBytes start bs).mem c = Memory.read s.mem c :=
  Memory.read_writeBytes_other bs s.mem start c h

/-! ## The shared shapes of the meanings -/

theorem retire_eq_next {r : RegIdx} {v : Word} {s t : State} : retire r v s = .next t ↔ t = (s.setGpr r v).advance := by
  simp only [retire, next_eq_next]

theorem loadWith_eq_next {f : Word → Word} {n : Nat} {base rt : RegIdx} {offset : BitVec 16} {s t : State} :
    loadWith f n base rt offset s = .next t ↔
      ∃ v, memRead s .load (effAddr s base offset) n = .next v ∧ t = (s.setGpr rt (f v)).advance := by
  simp only [loadWith, andThen_eq_next, retire_eq_next]

theorem storeLow_eq_next {n : Nat} {base rt : RegIdx} {offset : BitVec 16} {s t : State} :
    storeLow n base rt offset s = .next t ↔
      ∃ u, memWrite s (effAddr s base offset) n (s.gpr rt) = .next u ∧ t = u.advance := by
  simp only [storeLow, andThen_eq_next, next_eq_next]

theorem branchIf_eq_next {taken : Bool} {offset : BitVec 16} {s t : State} :
    branchIf taken offset s = .next t ↔
      ¬(s.ds = true ∧ s.par.delaySlotBranch = .fault)
        ∧ t = if taken then s.branchTo (branchTarget s.pc offset) else s.fallThrough := by
  simp only [branchIf, slotCheck_eq_next, next_eq_next]

theorem badBitfield_eq_next {i : Instr} {rt : RegIdx} {s t : State} :
    badBitfield i rt s = .next t ↔
      s.par.bitfieldRange = .draw ∧ t = (s.drawn.setGpr rt (Config.bitfieldDraw s.draws)).advance := by
  unfold badBitfield
  split <;> simp [*, retire_eq_next]

theorem serve_eq_next {call : SyscallRequest} {s t : State} :
    serve call s = .next t ↔
      ∃ ret writes after, s.replies.head? = some (.answer call ret writes after) ∧ legalWrites s writes = true
        ∧ t = (((s.served writes after).setReturn ret).clearReservation).advance := by
  unfold serve
  split
  · rename_i h
    split
    · rename_i hw
      obtain ⟨rfl, hw⟩ := hw
      rw [next_eq_next]
      refine ⟨fun e => ⟨_, _, _, h, hw, e⟩, ?_⟩
      rintro ⟨_, _, _, h', -, e⟩
      rw [h] at h'
      cases h'
      exact e
    · rename_i hw
      simp only [raise_ne_next, false_iff]
      rintro ⟨_, _, _, h', hw', -⟩
      rw [h] at h'
      cases h'
      exact hw ⟨rfl, hw'⟩
  · rename_i h
    simp only [raise_ne_next, false_iff]
    rintro ⟨ret, writes, after, hr, -⟩
    exact h call ret writes after hr

theorem divideByZero_eq (s : State) :
    s.divideByZero =
      match s.par.divByZero with
      | .draw => ((s.setHi (Config.divByZeroHi s.draws)).setLo (Config.divByZeroLo s.draws)).drawn
      | .values h l => (s.setHi h).setLo l := rfl

/-- The state after an SC's decision differs at most in the draw counter. -/
theorem scResolve_snd (s : State) (addr : Word) : (scResolve s addr).2 = s ∨ (scResolve s addr).2 = s.drawn := by
  unfold scResolve
  split <;> simp

end Sys2Proof.Machine
end

