-- ==== Sys2Proof/Laws/PerInstr.lean ====
section
/-! SUPPORT. For every instruction, a row of the opcode table that accepts its word and reads the instruction back from it:
the family `RowAccepts` of LAWS.json. -/

namespace Sys2Proof.Laws

/-- Some row of the table accepts the word of `i`, and its fields give `i` back. -/
def RowAccepts.Statement (i : Instr) : Prop :=
  ∃ r ∈ opcodeTable, r.accepts (encode i) = true ∧ r.build (encode i) = i

theorem rowAccepts_of_row {i : Instr} {r : Row} (n : Nat) (h : opcodeTable[n]? = some r)
    (haccepts : r.accepts (encode i) = true) (hbuild : r.build (encode i) = i) : RowAccepts.Statement i :=
  ⟨r, List.mem_of_getElem? h, haccepts, hbuild⟩

/-! ## Acceptance, by the cells of the mask -/

theorem accepts_encR {m p : Word} {b : Word → Instr} {op func : BitVec 6} {rs rt rd shamt : BitVec 5}
    (mop : BitVec 6) (mrs mrt mrd mshamt : BitVec 5) (mfunc : BitVec 6)
    (hm : m = encR mop mrs mrt mrd mshamt mfunc)
    (hp : encR (op &&& mop) (rs &&& mrs) (rt &&& mrt) (rd &&& mrd) (shamt &&& mshamt) (func &&& mfunc) = p) :
    Row.accepts ⟨m, p, b⟩ (encR op rs rt rd shamt func) = true := by
  simp only [Row.accepts, hm, encR_and, hp, beq_self_eq_true]

theorem accepts_encI {m p : Word} {b : Word → Instr} {op : BitVec 6} {rs rt : BitVec 5} {imm : BitVec 16}
    (mop : BitVec 6) (mrs mrt : BitVec 5) (hm : m = encI mop mrs mrt 0#16)
    (hp : encI (op &&& mop) (rs &&& mrs) (rt &&& mrt) (imm &&& 0#16) = p) :
    Row.accepts ⟨m, p, b⟩ (encI op rs rt imm) = true := by
  simp only [Row.accepts, hm, encI_and, hp, beq_self_eq_true]

theorem accepts_encJ {m p : Word} {b : Word → Instr} {op : BitVec 6} {index : BitVec 26}
    (hm : m = encJ 63#6 0#26) (hp : encJ (op &&& 63#6) (index &&& 0#26) = p) :
    Row.accepts ⟨m, p, b⟩ (encJ op index) = true := by
  simp only [Row.accepts, hm, encJ_and, hp, beq_self_eq_true]

theorem accepts_code20 {m p : Word} {b : Word → Instr} {op func : BitVec 6} {code : BitVec 20}
    (hm : m = 63#6 ++ 0#20 ++ 63#6) (hp : (op &&& 63#6) ++ (code &&& 0#20) ++ (func &&& 63#6) = p) :
    Row.accepts ⟨m, p, b⟩ (op ++ code ++ func) = true := by
  have h : op ++ code ++ func &&& m = p := by
    rw [hm, ← hp]
    simp only [← BitVec.and_append]
  simp only [Row.accepts, h, beq_self_eq_true]

theorem accepts_code10 {m p : Word} {b : Word → Instr} {op func : BitVec 6} {rs rt : BitVec 5} {code : BitVec 10}
    (hm : m = 63#6 ++ 0#5 ++ 0#5 ++ 0#10 ++ 63#6)
    (hp : (op &&& 63#6) ++ (rs &&& 0#5) ++ (rt &&& 0#5) ++ (code &&& 0#10) ++ (func &&& 63#6) = p) :
    Row.accepts ⟨m, p, b⟩ (op ++ rs ++ rt ++ code ++ func) = true := by
  have h : op ++ rs ++ rt ++ code ++ func &&& m = p := by
    rw [hm, ← hp]
    simp only [← BitVec.and_append]
  simp only [Row.accepts, h, beq_self_eq_true]

/-! ## The 76 instructions, in the table's order -/

theorem RowAccepts.add (rs rt rd : RegIdx) :
    RowAccepts.Statement (.add rs rt rd) :=
  rowAccepts_of_row 0 rfl (accepts_encR 63#6 0#5 0#5 0#5 31#5 63#6 (by decide) (by simp only [BitVec.and_zero]; rfl)) (by simp [encode])

theorem RowAccepts.addi (rs rt : RegIdx) (imm : BitVec 16) :
    RowAccepts.Statement (.addi rs rt imm) :=
  rowAccepts_of_row 1 rfl (accepts_encI 63#6 0#5 0#5 (by decide) (by simp only [BitVec.and_zero]; rfl)) (by simp [encode])

theorem RowAccepts.addiu (rs rt : RegIdx) (imm : BitVec 16) :
    RowAccepts.Statement (.addiu rs rt imm) :=
  rowAccepts_of_row 2 rfl (accepts_encI 63#6 0#5 0#5 (by decide) (by simp only [BitVec.and_zero]; rfl)) (by simp [encode])

theorem RowAccepts.addu (rs rt rd : RegIdx) :
    RowAccepts.Statement (.addu rs rt rd) :=
  rowAccepts_of_row 3 rfl (accepts_encR 63#6 0#5 0#5 0#5 31#5 63#6 (by decide) (by simp only [BitVec.and_zero]; rfl)) (by simp [encode])

theorem RowAccepts.and (rs rt rd : RegIdx) :
    RowAccepts.Statement (.and rs rt rd) :=
  rowAccepts_of_row 4 rfl (accepts_encR 63#6 0#5 0#5 0#5 31#5 63#6 (by decide) (by simp only [BitVec.and_zero]; rfl)) (by simp [encode])

theorem RowAccepts.andi (rs rt : RegIdx) (imm : BitVec 16) :
    RowAccepts.Statement (.andi rs rt imm) :=
  rowAccepts_of_row 5 rfl (accepts_encI 63#6 0#5 0#5 (by decide) (by simp only [BitVec.and_zero]; rfl)) (by simp [encode])

theorem RowAccepts.beq (rs rt : RegIdx) (offset : BitVec 16) :
    RowAccepts.Statement (.beq rs rt offset) :=
  rowAccepts_of_row 6 rfl (accepts_encI 63#6 0#5 0#5 (by decide) (by simp only [BitVec.and_zero]; rfl)) (by simp [encode])

theorem RowAccepts.bgez (rs : RegIdx) (offset : BitVec 16) :
    RowAccepts.Statement (.bgez rs offset) :=
  rowAccepts_of_row 7 rfl (accepts_encI 63#6 0#5 31#5 (by decide) (by simp only [BitVec.and_zero]; rfl)) (by simp [encode])

theorem RowAccepts.bgtz (rs : RegIdx) (offset : BitVec 16) :
    RowAccepts.Statement (.bgtz rs offset) :=
  rowAccepts_of_row 8 rfl (accepts_encI 63#6 0#5 31#5 (by decide) (by simp only [BitVec.and_zero]; rfl)) (by simp [encode])

theorem RowAccepts.blez (rs : RegIdx) (offset : BitVec 16) :
    RowAccepts.Statement (.blez rs offset) :=
  rowAccepts_of_row 9 rfl (accepts_encI 63#6 0#5 31#5 (by decide) (by simp only [BitVec.and_zero]; rfl)) (by simp [encode])

theorem RowAccepts.bltz (rs : RegIdx) (offset : BitVec 16) :
    RowAccepts.Statement (.bltz rs offset) :=
  rowAccepts_of_row 10 rfl (accepts_encI 63#6 0#5 31#5 (by decide) (by simp only [BitVec.and_zero]; rfl)) (by simp [encode])

theorem RowAccepts.bne (rs rt : RegIdx) (offset : BitVec 16) :
    RowAccepts.Statement (.bne rs rt offset) :=
  rowAccepts_of_row 11 rfl (accepts_encI 63#6 0#5 0#5 (by decide) (by simp only [BitVec.and_zero]; rfl)) (by simp [encode])

theorem RowAccepts.clo (rs rt rd : RegIdx) :
    RowAccepts.Statement (.clo rs rt rd) :=
  rowAccepts_of_row 12 rfl (accepts_encR 63#6 0#5 0#5 0#5 31#5 63#6 (by decide) (by simp only [BitVec.and_zero]; rfl)) (by simp [encode])

theorem RowAccepts.clz (rs rt rd : RegIdx) :
    RowAccepts.Statement (.clz rs rt rd) :=
  rowAccepts_of_row 13 rfl (accepts_encR 63#6 0#5 0#5 0#5 31#5 63#6 (by decide) (by simp only [BitVec.and_zero]; rfl)) (by simp [encode])

theorem RowAccepts.div (rs rt : RegIdx) :
    RowAccepts.Statement (.div rs rt) :=
  rowAccepts_of_row 14 rfl (accepts_encR 63#6 0#5 0#5 31#5 31#5 63#6 (by decide) (by simp only [BitVec.and_zero]; rfl)) (by simp [encode])

theorem RowAccepts.divu (rs rt : RegIdx) :
    RowAccepts.Statement (.divu rs rt) :=
  rowAccepts_of_row 15 rfl (accepts_encR 63#6 0#5 0#5 31#5 31#5 63#6 (by decide) (by simp only [BitVec.and_zero]; rfl)) (by simp [encode])

theorem RowAccepts.j (instrIndex : BitVec 26) :
    RowAccepts.Statement (.j instrIndex) :=
  rowAccepts_of_row 16 rfl (accepts_encJ (by decide) (by simp only [BitVec.and_zero]; rfl)) (by simp [encode])

theorem RowAccepts.jal (instrIndex : BitVec 26) :
    RowAccepts.Statement (.jal instrIndex) :=
  rowAccepts_of_row 17 rfl (accepts_encJ (by decide) (by simp only [BitVec.and_zero]; rfl)) (by simp [encode])

theorem RowAccepts.jalr (rs rd : RegIdx) (hint : BitVec 5) :
    RowAccepts.Statement (.jalr rs rd hint) :=
  rowAccepts_of_row 18 rfl (accepts_encR 63#6 0#5 31#5 0#5 0#5 63#6 (by decide) (by simp only [BitVec.and_zero]; rfl)) (by simp [encode])

theorem RowAccepts.jr (rs : RegIdx) (hint : BitVec 5) :
    RowAccepts.Statement (.jr rs hint) :=
  rowAccepts_of_row 19 rfl (accepts_encR 63#6 0#5 31#5 31#5 0#5 63#6 (by decide) (by simp only [BitVec.and_zero]; rfl)) (by simp [encode])

theorem RowAccepts.lb (base rt : RegIdx) (offset : BitVec 16) :
    RowAccepts.Statement (.lb base rt offset) :=
  rowAccepts_of_row 20 rfl (accepts_encI 63#6 0#5 0#5 (by decide) (by simp only [BitVec.and_zero]; rfl)) (by simp [encode])

theorem RowAccepts.lbu (base rt : RegIdx) (offset : BitVec 16) :
    RowAccepts.Statement (.lbu base rt offset) :=
  rowAccepts_of_row 21 rfl (accepts_encI 63#6 0#5 0#5 (by decide) (by simp only [BitVec.and_zero]; rfl)) (by simp [encode])

theorem RowAccepts.lh (base rt : RegIdx) (offset : BitVec 16) :
    RowAccepts.Statement (.lh base rt offset) :=
  rowAccepts_of_row 22 rfl (accepts_encI 63#6 0#5 0#5 (by decide) (by simp only [BitVec.and_zero]; rfl)) (by simp [encode])

theorem RowAccepts.lhu (base rt : RegIdx) (offset : BitVec 16) :
    RowAccepts.Statement (.lhu base rt offset) :=
  rowAccepts_of_row 23 rfl (accepts_encI 63#6 0#5 0#5 (by decide) (by simp only [BitVec.and_zero]; rfl)) (by simp [encode])

theorem RowAccepts.ll (base rt : RegIdx) (offset : BitVec 16) :
    RowAccepts.Statement (.ll base rt offset) :=
  rowAccepts_of_row 24 rfl (accepts_encI 63#6 0#5 0#5 (by decide) (by simp only [BitVec.and_zero]; rfl)) (by simp [encode])

theorem RowAccepts.lui (rt : RegIdx) (imm : BitVec 16) :
    RowAccepts.Statement (.lui rt imm) :=
  rowAccepts_of_row 25 rfl (accepts_encI 63#6 31#5 0#5 (by decide) (by simp only [BitVec.and_zero]; rfl)) (by simp [encode])

theorem RowAccepts.lw (base rt : RegIdx) (offset : BitVec 16) :
    RowAccepts.Statement (.lw base rt offset) :=
  rowAccepts_of_row 26 rfl (accepts_encI 63#6 0#5 0#5 (by decide) (by simp only [BitVec.and_zero]; rfl)) (by simp [encode])

theorem RowAccepts.lwl (base rt : RegIdx) (offset : BitVec 16) :
    RowAccepts.Statement (.lwl base rt offset) :=
  rowAccepts_of_row 27 rfl (accepts_encI 63#6 0#5 0#5 (by decide) (by simp only [BitVec.and_zero]; rfl)) (by simp [encode])

theorem RowAccepts.lwr (base rt : RegIdx) (offset : BitVec 16) :
    RowAccepts.Statement (.lwr base rt offset) :=
  rowAccepts_of_row 28 rfl (accepts_encI 63#6 0#5 0#5 (by decide) (by simp only [BitVec.and_zero]; rfl)) (by simp [encode])

theorem RowAccepts.mfhi (rd : RegIdx) :
    RowAccepts.Statement (.mfhi rd) :=
  rowAccepts_of_row 29 rfl (accepts_encR 63#6 31#5 31#5 0#5 31#5 63#6 (by decide) (by simp only [BitVec.and_zero]; rfl)) (by simp [encode])

theorem RowAccepts.mflo (rd : RegIdx) :
    RowAccepts.Statement (.mflo rd) :=
  rowAccepts_of_row 30 rfl (accepts_encR 63#6 31#5 31#5 0#5 31#5 63#6 (by decide) (by simp only [BitVec.and_zero]; rfl)) (by simp [encode])

theorem RowAccepts.movn (rs rt rd : RegIdx) :
    RowAccepts.Statement (.movn rs rt rd) :=
  rowAccepts_of_row 31 rfl (accepts_encR 63#6 0#5 0#5 0#5 31#5 63#6 (by decide) (by simp only [BitVec.and_zero]; rfl)) (by simp [encode])

theorem RowAccepts.movz (rs rt rd : RegIdx) :
    RowAccepts.Statement (.movz rs rt rd) :=
  rowAccepts_of_row 32 rfl (accepts_encR 63#6 0#5 0#5 0#5 31#5 63#6 (by decide) (by simp only [BitVec.and_zero]; rfl)) (by simp [encode])

theorem RowAccepts.mthi (rs : RegIdx) :
    RowAccepts.Statement (.mthi rs) :=
  rowAccepts_of_row 33 rfl (accepts_encR 63#6 0#5 31#5 31#5 31#5 63#6 (by decide) (by simp only [BitVec.and_zero]; rfl)) (by simp [encode])

theorem RowAccepts.mtlo (rs : RegIdx) :
    RowAccepts.Statement (.mtlo rs) :=
  rowAccepts_of_row 34 rfl (accepts_encR 63#6 0#5 31#5 31#5 31#5 63#6 (by decide) (by simp only [BitVec.and_zero]; rfl)) (by simp [encode])

theorem RowAccepts.mul (rs rt rd : RegIdx) :
    RowAccepts.Statement (.mul rs rt rd) :=
  rowAccepts_of_row 35 rfl (accepts_encR 63#6 0#5 0#5 0#5 31#5 63#6 (by decide) (by simp only [BitVec.and_zero]; rfl)) (by simp [encode])

theorem RowAccepts.mult (rs rt : RegIdx) :
    RowAccepts.Statement (.mult rs rt) :=
  rowAccepts_of_row 36 rfl (accepts_encR 63#6 0#5 0#5 31#5 31#5 63#6 (by decide) (by simp only [BitVec.and_zero]; rfl)) (by simp [encode])

theorem RowAccepts.multu (rs rt : RegIdx) :
    RowAccepts.Statement (.multu rs rt) :=
  rowAccepts_of_row 37 rfl (accepts_encR 63#6 0#5 0#5 31#5 31#5 63#6 (by decide) (by simp only [BitVec.and_zero]; rfl)) (by simp [encode])

theorem RowAccepts.nor (rs rt rd : RegIdx) :
    RowAccepts.Statement (.nor rs rt rd) :=
  rowAccepts_of_row 38 rfl (accepts_encR 63#6 0#5 0#5 0#5 31#5 63#6 (by decide) (by simp only [BitVec.and_zero]; rfl)) (by simp [encode])

theorem RowAccepts.or (rs rt rd : RegIdx) :
    RowAccepts.Statement (.or rs rt rd) :=
  rowAccepts_of_row 39 rfl (accepts_encR 63#6 0#5 0#5 0#5 31#5 63#6 (by decide) (by simp only [BitVec.and_zero]; rfl)) (by simp [encode])

theorem RowAccepts.ori (rs rt : RegIdx) (imm : BitVec 16) :
    RowAccepts.Statement (.ori rs rt imm) :=
  rowAccepts_of_row 40 rfl (accepts_encI 63#6 0#5 0#5 (by decide) (by simp only [BitVec.and_zero]; rfl)) (by simp [encode])

theorem RowAccepts.sb (base rt : RegIdx) (offset : BitVec 16) :
    RowAccepts.Statement (.sb base rt offset) :=
  rowAccepts_of_row 41 rfl (accepts_encI 63#6 0#5 0#5 (by decide) (by simp only [BitVec.and_zero]; rfl)) (by simp [encode])

theorem RowAccepts.sc (base rt : RegIdx) (offset : BitVec 16) :
    RowAccepts.Statement (.sc base rt offset) :=
  rowAccepts_of_row 42 rfl (accepts_encI 63#6 0#5 0#5 (by decide) (by simp only [BitVec.and_zero]; rfl)) (by simp [encode])

theorem RowAccepts.sh (base rt : RegIdx) (offset : BitVec 16) :
    RowAccepts.Statement (.sh base rt offset) :=
  rowAccepts_of_row 43 rfl (accepts_encI 63#6 0#5 0#5 (by decide) (by simp only [BitVec.and_zero]; rfl)) (by simp [encode])

theorem RowAccepts.sll (rt rd : RegIdx) (sa : BitVec 5) :
    RowAccepts.Statement (.sll rt rd sa) :=
  rowAccepts_of_row 44 rfl (accepts_encR 63#6 31#5 0#5 0#5 0#5 63#6 (by decide) (by simp only [BitVec.and_zero]; rfl)) (by simp [encode])

theorem RowAccepts.sllv (rs rt rd : RegIdx) :
    RowAccepts.Statement (.sllv rs rt rd) :=
  rowAccepts_of_row 45 rfl (accepts_encR 63#6 0#5 0#5 0#5 31#5 63#6 (by decide) (by simp only [BitVec.and_zero]; rfl)) (by simp [encode])

theorem RowAccepts.slt (rs rt rd : RegIdx) :
    RowAccepts.Statement (.slt rs rt rd) :=
  rowAccepts_of_row 46 rfl (accepts_encR 63#6 0#5 0#5 0#5 31#5 63#6 (by decide) (by simp only [BitVec.and_zero]; rfl)) (by simp [encode])

theorem RowAccepts.slti (rs rt : RegIdx) (imm : BitVec 16) :
    RowAccepts.Statement (.slti rs rt imm) :=
  rowAccepts_of_row 47 rfl (accepts_encI 63#6 0#5 0#5 (by decide) (by simp only [BitVec.and_zero]; rfl)) (by simp [encode])

theorem RowAccepts.sltiu (rs rt : RegIdx) (imm : BitVec 16) :
    RowAccepts.Statement (.sltiu rs rt imm) :=
  rowAccepts_of_row 48 rfl (accepts_encI 63#6 0#5 0#5 (by decide) (by simp only [BitVec.and_zero]; rfl)) (by simp [encode])

theorem RowAccepts.sltu (rs rt rd : RegIdx) :
    RowAccepts.Statement (.sltu rs rt rd) :=
  rowAccepts_of_row 49 rfl (accepts_encR 63#6 0#5 0#5 0#5 31#5 63#6 (by decide) (by simp only [BitVec.and_zero]; rfl)) (by simp [encode])

theorem RowAccepts.sra (rt rd : RegIdx) (sa : BitVec 5) :
    RowAccepts.Statement (.sra rt rd sa) :=
  rowAccepts_of_row 50 rfl (accepts_encR 63#6 31#5 0#5 0#5 0#5 63#6 (by decide) (by simp only [BitVec.and_zero]; rfl)) (by simp [encode])

theorem RowAccepts.srav (rs rt rd : RegIdx) :
    RowAccepts.Statement (.srav rs rt rd) :=
  rowAccepts_of_row 51 rfl (accepts_encR 63#6 0#5 0#5 0#5 31#5 63#6 (by decide) (by simp only [BitVec.and_zero]; rfl)) (by simp [encode])

theorem RowAccepts.sync (stype : BitVec 5) :
    RowAccepts.Statement (.sync stype) :=
  rowAccepts_of_row 52 rfl (accepts_encR 63#6 31#5 31#5 31#5 0#5 63#6 (by decide) (by simp only [BitVec.and_zero]; rfl)) (by simp [encode])

theorem RowAccepts.srl (rt rd : RegIdx) (sa : BitVec 5) :
    RowAccepts.Statement (.srl rt rd sa) :=
  rowAccepts_of_row 53 rfl (accepts_encR 63#6 31#5 0#5 0#5 0#5 63#6 (by decide) (by simp only [BitVec.and_zero]; rfl)) (by simp [encode])

theorem RowAccepts.srlv (rs rt rd : RegIdx) :
    RowAccepts.Statement (.srlv rs rt rd) :=
  rowAccepts_of_row 54 rfl (accepts_encR 63#6 0#5 0#5 0#5 31#5 63#6 (by decide) (by simp only [BitVec.and_zero]; rfl)) (by simp [encode])

theorem RowAccepts.sub (rs rt rd : RegIdx) :
    RowAccepts.Statement (.sub rs rt rd) :=
  rowAccepts_of_row 55 rfl (accepts_encR 63#6 0#5 0#5 0#5 31#5 63#6 (by decide) (by simp only [BitVec.and_zero]; rfl)) (by simp [encode])

theorem RowAccepts.subu (rs rt rd : RegIdx) :
    RowAccepts.Statement (.subu rs rt rd) :=
  rowAccepts_of_row 56 rfl (accepts_encR 63#6 0#5 0#5 0#5 31#5 63#6 (by decide) (by simp only [BitVec.and_zero]; rfl)) (by simp [encode])

theorem RowAccepts.sw (base rt : RegIdx) (offset : BitVec 16) :
    RowAccepts.Statement (.sw base rt offset) :=
  rowAccepts_of_row 57 rfl (accepts_encI 63#6 0#5 0#5 (by decide) (by simp only [BitVec.and_zero]; rfl)) (by simp [encode])

theorem RowAccepts.swl (base rt : RegIdx) (offset : BitVec 16) :
    RowAccepts.Statement (.swl base rt offset) :=
  rowAccepts_of_row 58 rfl (accepts_encI 63#6 0#5 0#5 (by decide) (by simp only [BitVec.and_zero]; rfl)) (by simp [encode])

theorem RowAccepts.swr (base rt : RegIdx) (offset : BitVec 16) :
    RowAccepts.Statement (.swr base rt offset) :=
  rowAccepts_of_row 59 rfl (accepts_encI 63#6 0#5 0#5 (by decide) (by simp only [BitVec.and_zero]; rfl)) (by simp [encode])

theorem RowAccepts.syscall (code : BitVec 20) :
    RowAccepts.Statement (.syscall code) :=
  rowAccepts_of_row 60 rfl (accepts_code20 (by decide) (by simp only [BitVec.and_zero]; rfl)) (by simp [encode])

theorem RowAccepts.xor (rs rt rd : RegIdx) :
    RowAccepts.Statement (.xor rs rt rd) :=
  rowAccepts_of_row 61 rfl (accepts_encR 63#6 0#5 0#5 0#5 31#5 63#6 (by decide) (by simp only [BitVec.and_zero]; rfl)) (by simp [encode])

theorem RowAccepts.xori (rs rt : RegIdx) (imm : BitVec 16) :
    RowAccepts.Statement (.xori rs rt imm) :=
  rowAccepts_of_row 62 rfl (accepts_encI 63#6 0#5 0#5 (by decide) (by simp only [BitVec.and_zero]; rfl)) (by simp [encode])

theorem RowAccepts.bal (offset : BitVec 16) :
    RowAccepts.Statement (.bal offset) :=
  rowAccepts_of_row 63 rfl (accepts_encI 63#6 31#5 31#5 (by decide) (by simp only [BitVec.and_zero]; rfl)) (by simp [encode])

theorem RowAccepts.synci (base : RegIdx) (offset : BitVec 16) :
    RowAccepts.Statement (.synci base offset) :=
  rowAccepts_of_row 64 rfl (accepts_encI 63#6 0#5 31#5 (by decide) (by simp only [BitVec.and_zero]; rfl)) (by simp [encode])

theorem RowAccepts.pref (base : RegIdx) (hint : BitVec 5) (offset : BitVec 16) :
    RowAccepts.Statement (.pref base hint offset) :=
  rowAccepts_of_row 65 rfl (accepts_encI 63#6 0#5 0#5 (by decide) (by simp only [BitVec.and_zero]; rfl)) (by simp [encode])

theorem RowAccepts.teq (rs rt : RegIdx) (code : BitVec 10) :
    RowAccepts.Statement (.teq rs rt code) :=
  rowAccepts_of_row 66 rfl (accepts_code10 (by decide) (by simp only [BitVec.and_zero]; rfl)) (by simp [encode])

theorem RowAccepts.rotr (rt rd : RegIdx) (sa : BitVec 5) :
    RowAccepts.Statement (.rotr rt rd sa) :=
  rowAccepts_of_row 67 rfl (accepts_encR 63#6 31#5 0#5 0#5 0#5 63#6 (by decide) (by simp only [BitVec.and_zero]; rfl)) (by simp [encode])

theorem RowAccepts.rotrv (rs rt rd : RegIdx) :
    RowAccepts.Statement (.rotrv rs rt rd) :=
  rowAccepts_of_row 68 rfl (accepts_encR 63#6 0#5 0#5 0#5 31#5 63#6 (by decide) (by simp only [BitVec.and_zero]; rfl)) (by simp [encode])

theorem RowAccepts.wsbh (rt rd : RegIdx) :
    RowAccepts.Statement (.wsbh rt rd) :=
  rowAccepts_of_row 69 rfl (accepts_encR 63#6 31#5 0#5 0#5 31#5 63#6 (by decide) (by simp only [BitVec.and_zero]; rfl)) (by simp [encode])

theorem RowAccepts.ext (rs rt : RegIdx) (msbd lsb : BitVec 5) :
    RowAccepts.Statement (.ext rs rt msbd lsb) :=
  rowAccepts_of_row 70 rfl (accepts_encR 63#6 0#5 0#5 0#5 0#5 63#6 (by decide) (by simp only [BitVec.and_zero]; rfl)) (by simp [encode])

theorem RowAccepts.seh (rt rd : RegIdx) :
    RowAccepts.Statement (.seh rt rd) :=
  rowAccepts_of_row 71 rfl (accepts_encR 63#6 31#5 0#5 0#5 31#5 63#6 (by decide) (by simp only [BitVec.and_zero]; rfl)) (by simp [encode])

theorem RowAccepts.seb (rt rd : RegIdx) :
    RowAccepts.Statement (.seb rt rd) :=
  rowAccepts_of_row 72 rfl (accepts_encR 63#6 31#5 0#5 0#5 31#5 63#6 (by decide) (by simp only [BitVec.and_zero]; rfl)) (by simp [encode])

theorem RowAccepts.ins (rs rt : RegIdx) (msb lsb : BitVec 5) :
    RowAccepts.Statement (.ins rs rt msb lsb) :=
  rowAccepts_of_row 73 rfl (accepts_encR 63#6 0#5 0#5 0#5 0#5 63#6 (by decide) (by simp only [BitVec.and_zero]; rfl)) (by simp [encode])

theorem RowAccepts.maddu (rs rt : RegIdx) :
    RowAccepts.Statement (.maddu rs rt) :=
  rowAccepts_of_row 74 rfl (accepts_encR 63#6 0#5 0#5 31#5 31#5 63#6 (by decide) (by simp only [BitVec.and_zero]; rfl)) (by simp [encode])

theorem RowAccepts.msubu (rs rt : RegIdx) :
    RowAccepts.Statement (.msubu rs rt) :=
  rowAccepts_of_row 75 rfl (accepts_encR 63#6 0#5 0#5 31#5 31#5 63#6 (by decide) (by simp only [BitVec.and_zero]; rfl)) (by simp [encode])

end Sys2Proof.Laws
end

