-- ==== Sys2Proof/Laws/Run.lean ====
section
/-! SUPPORT. What a run does once it has ended or stands still, and what `faultFree` excludes. -/

namespace Sys2Proof.Machine

/-- A run that has ended has no further step (00_scope.md R13, R14). -/
theorem step_of_ended {s : State} (h : s.outcome ≠ .running) : step s = .refused .runEnded := by
  unfold step
  split
  · contradiction
  · rfl

/-- A refused step leaves the run where it is, however long (log entry 22). -/
theorem runFor_of_refused {s : State} {r : Refusal} (h : step s = .refused r) (n : Nat) : runFor n s = s := by
  induction n with
  | zero => rfl
  | succ n ih => simp only [runFor, h, State.settle, ih]

/-- A run in which the next step is refused, and which HALT has not ended, is not fault-free. -/
theorem faultFree_of_refused {s : State} {r : Refusal} (h : step s = .refused r) (n : Nat) :
    faultFree (n + 1) s = s.isHalted := by
  simp only [faultFree, h]

/-- A fault-free run has not ended in a fault. -/
theorem notFaulted_of_faultFree {n : Nat} {s : State} (h : faultFree n s = true) : (runFor n s).notFaulted = true := by
  induction n generalizing s with
  | zero => exact h
  | succ n ih =>
    cases hs : step s with
    | next t =>
      simp only [faultFree, hs] at h
      simp only [runFor, hs, State.settle, ih h]
    | fault f => simp [faultFree, hs] at h
    | refused r =>
      rw [faultFree_of_refused hs] at h
      rw [runFor_of_refused hs]
      unfold State.isHalted at h
      unfold State.notFaulted
      split at h <;> simp_all

end Sys2Proof.Machine
end

