-- ==== Sys2Proof/Tests/Slice0.lean ====
section
/-! SUPPORT. The model's own tests: words written out from the encodings of the spec, one or two single steps per instruction with
the vectors of 95_test_vectors.md section 2 (V<k>) and the sequences of its section 3 (S<k>) as the source of the expected
values, and a witness for every obligation that has hypotheses. -/

namespace Sys2Proof.Tests

open Sys2Proof.Machine Sys2Proof.Spec

/-! ## Small machines -/

/-- The parameters of the vectors' conventions, and the bytes of V80. -/
def vectorParams (order : ByteOrder) : Params :=
  { defaultParams with
    byteOrder := order
    memMap := [⟨0x2000, 0x100, false, true, true⟩, ⟨0, 4, false, true, false⟩] }

/-- Memory 0x2000 to 0x2007 as in the heading of section 2.4, and the bytes of V80. -/
def vectorMem : Memory :=
  [(0, 0x78), (1, 0x56), (2, 0x34), (3, 0x12), (0x2000, 0x11), (0x2001, 0x22), (0x2002, 0x33), (0x2003, 0x44),
    (0x2004, 0x80), (0x2005, 0xFF), (0x2006, 0x7F), (0x2007, 0x01)]

/-- A running machine with some registers set. -/
def machine (p : Params) (regs : List (RegIdx × Word)) : State :=
  let s := State.start
    { par := p, entryPc := 0x1000, gpr := resetGpr, hi := 0x11111111, lo := 0x22222222, llAddr := 0, mem := vectorMem
      env := ⟨[], [], [], []⟩, replies := [] }
  regs.foldl (fun s c => s.setGpr c.1 c.2) s

/-- The same with an instruction word to execute at 0x1000. -/
def boot (order : ByteOrder) (regs : List (RegIdx × Word)) (w : Word) : State :=
  (machine (vectorParams order) regs).withFetchWord 32 w.toNat

/-- A register, `pc`, `npc` and `ds` after one step. -/
def see (r : RegIdx) (s : State) : Option (Word × Word × Word × Bool) :=
  match step s with
  | .next t => some (t.gpr r, t.pc, t.npc, t.ds)
  | _ => none

/-- `hi` and `lo` after one step. -/
def seeHiLo (s : State) : Option (Word × Word) :=
  match step s with
  | .next t => some (t.hi, t.lo)
  | _ => none

/-- The bytes from an address after one step. -/
def seeBytes (a n : Nat) (s : State) : Option (List (Option Byte)) :=
  match step s with
  | .next t => some ((List.range n).map fun i => Memory.read t.mem (a + i))
  | _ => none

/-- Outcome, `pc` and `npc` after one step. -/
def seeEnd (s : State) : Option (RunOutcome × Word × Word) :=
  match step s with
  | .next t => some (t.outcome, t.pc, t.npc)
  | _ => none

/-- The fault an operation ends in. -/
def faultOf {α : Type} : Res α → Option Fault
  | .fault f => some f
  | _ => none

/-- The operation has a next state. -/
def completes {α : Type} : Res α → Bool
  | .next _ => true
  | _ => false

/-- The next state. -/
def after {α : Type} (d : α) : Res α → α
  | .next t => t
  | _ => d

theorem eq_next_after {α : Type} (d : α) {x : Res α} (h : completes x = true) : x = .next (after d x) := by
  cases x <;> simp_all [completes, after]

theorem eq_fault {α : Type} {x : Res α} {f : Fault} (h : faultOf x = some f) : x = .fault f := by
  cases x <;> simp_all [faultOf]

/-! ## WellFormed: one ill-formed term for each check, and the last legal ones -/

theorem test_wellFormed_refuses_ext_past_bit_31 : Instr.wellFormed (.ext 8 9 15 20) = false := by decide
theorem test_wellFormed_refuses_ins_upside_down : Instr.wellFormed (.ins 8 9 3 4) = false := by decide
theorem test_wellFormed_accepts_ext_to_bit_31 : Instr.wellFormed (.ext 8 9 11 20) = true := by decide
theorem test_wellFormed_accepts_ins_of_one_bit : Instr.wellFormed (.ins 8 9 31 31) = true := by decide

/-! ## Decoding: a word written out from each row of 95_test_vectors.md section 1.2 -/

theorem decode_add : decodeWord 0b00000001000010010101000000100000 = .instr (.add 8 9 10) := by decide
theorem decode_addi : decodeWord 0b00100001000010011000110001010011 = .instr (.addi 8 9 0x8C53) := by decide
theorem decode_addiu : decodeWord 0b00100101000010011000110001010011 = .instr (.addiu 8 9 0x8C53) := by decide
theorem decode_addu : decodeWord 0b00000001000010010101000000100001 = .instr (.addu 8 9 10) := by decide
theorem decode_and : decodeWord 0b00000001000010010101000000100100 = .instr (.and 8 9 10) := by decide
theorem decode_andi : decodeWord 0b00110001000010011000110001010011 = .instr (.andi 8 9 0x8C53) := by decide
theorem decode_beq : decodeWord 0b00010001000010011000110001010011 = .instr (.beq 8 9 0x8C53) := by decide
theorem decode_bgez : decodeWord 0b00000101000000011000110001010011 = .instr (.bgez 8 0x8C53) := by decide
theorem decode_bgtz : decodeWord 0b00011101000000001000110001010011 = .instr (.bgtz 8 0x8C53) := by decide
theorem decode_blez : decodeWord 0b00011001000000001000110001010011 = .instr (.blez 8 0x8C53) := by decide
theorem decode_bltz : decodeWord 0b00000101000000001000110001010011 = .instr (.bltz 8 0x8C53) := by decide
theorem decode_bne : decodeWord 0b00010101000010011000110001010011 = .instr (.bne 8 9 0x8C53) := by decide
theorem decode_clo : decodeWord 0b01110001000010010101000000100001 = .instr (.clo 8 9 10) := by decide
theorem decode_clz : decodeWord 0b01110001000010010101000000100000 = .instr (.clz 8 9 10) := by decide
theorem decode_div : decodeWord 0b00000001000010010000000000011010 = .instr (.div 8 9) := by decide
theorem decode_divu : decodeWord 0b00000001000010010000000000011011 = .instr (.divu 8 9) := by decide
theorem decode_j : decodeWord 0b00001010101001011100001110010001 = .instr (.j 0x2A5C391) := by decide
theorem decode_jal : decodeWord 0b00001110101001011100001110010001 = .instr (.jal 0x2A5C391) := by decide
theorem decode_jalr : decodeWord 0b00000001000000000101010110001001 = .instr (.jalr 8 10 22) := by decide
theorem decode_jr : decodeWord 0b00000001000000000000010110001000 = .instr (.jr 8 22) := by decide
theorem decode_lb : decodeWord 0b10000001000010011000110001010011 = .instr (.lb 8 9 0x8C53) := by decide
theorem decode_lbu : decodeWord 0b10010001000010011000110001010011 = .instr (.lbu 8 9 0x8C53) := by decide
theorem decode_lh : decodeWord 0b10000101000010011000110001010011 = .instr (.lh 8 9 0x8C53) := by decide
theorem decode_lhu : decodeWord 0b10010101000010011000110001010011 = .instr (.lhu 8 9 0x8C53) := by decide
theorem decode_ll : decodeWord 0b11000001000010011000110001010011 = .instr (.ll 8 9 0x8C53) := by decide
theorem decode_lui : decodeWord 0b00111100000010011000110001010011 = .instr (.lui 9 0x8C53) := by decide
theorem decode_lw : decodeWord 0b10001101000010011000110001010011 = .instr (.lw 8 9 0x8C53) := by decide
theorem decode_lwl : decodeWord 0b10001001000010011000110001010011 = .instr (.lwl 8 9 0x8C53) := by decide
theorem decode_lwr : decodeWord 0b10011001000010011000110001010011 = .instr (.lwr 8 9 0x8C53) := by decide
theorem decode_mfhi : decodeWord 0b00000000000000000101000000010000 = .instr (.mfhi 10) := by decide
theorem decode_mflo : decodeWord 0b00000000000000000101000000010010 = .instr (.mflo 10) := by decide
theorem decode_movn : decodeWord 0b00000001000010010101000000001011 = .instr (.movn 8 9 10) := by decide
theorem decode_movz : decodeWord 0b00000001000010010101000000001010 = .instr (.movz 8 9 10) := by decide
theorem decode_mthi : decodeWord 0b00000001000000000000000000010001 = .instr (.mthi 8) := by decide
theorem decode_mtlo : decodeWord 0b00000001000000000000000000010011 = .instr (.mtlo 8) := by decide
theorem decode_mul : decodeWord 0b01110001000010010101000000000010 = .instr (.mul 8 9 10) := by decide
theorem decode_mult : decodeWord 0b00000001000010010000000000011000 = .instr (.mult 8 9) := by decide
theorem decode_multu : decodeWord 0b00000001000010010000000000011001 = .instr (.multu 8 9) := by decide
theorem decode_nor : decodeWord 0b00000001000010010101000000100111 = .instr (.nor 8 9 10) := by decide
theorem decode_or : decodeWord 0b00000001000010010101000000100101 = .instr (.or 8 9 10) := by decide
theorem decode_ori : decodeWord 0b00110101000010011000110001010011 = .instr (.ori 8 9 0x8C53) := by decide
theorem decode_sb : decodeWord 0b10100001000010011000110001010011 = .instr (.sb 8 9 0x8C53) := by decide
theorem decode_sc : decodeWord 0b11100001000010011000110001010011 = .instr (.sc 8 9 0x8C53) := by decide
theorem decode_sh : decodeWord 0b10100101000010011000110001010011 = .instr (.sh 8 9 0x8C53) := by decide
theorem decode_sll : decodeWord 0b00000000000010010101010011000000 = .instr (.sll 9 10 19) := by decide
theorem decode_sllv : decodeWord 0b00000001000010010101000000000100 = .instr (.sllv 8 9 10) := by decide
theorem decode_slt : decodeWord 0b00000001000010010101000000101010 = .instr (.slt 8 9 10) := by decide
theorem decode_slti : decodeWord 0b00101001000010011000110001010011 = .instr (.slti 8 9 0x8C53) := by decide
theorem decode_sltiu : decodeWord 0b00101101000010011000110001010011 = .instr (.sltiu 8 9 0x8C53) := by decide
theorem decode_sltu : decodeWord 0b00000001000010010101000000101011 = .instr (.sltu 8 9 10) := by decide
theorem decode_sra : decodeWord 0b00000000000010010101010011000011 = .instr (.sra 9 10 19) := by decide
theorem decode_srav : decodeWord 0b00000001000010010101000000000111 = .instr (.srav 8 9 10) := by decide
theorem decode_sync : decodeWord 0b00000000000000000000010101001111 = .instr (.sync 21) := by decide
theorem decode_srl : decodeWord 0b00000000000010010101010011000010 = .instr (.srl 9 10 19) := by decide
theorem decode_srlv : decodeWord 0b00000001000010010101000000000110 = .instr (.srlv 8 9 10) := by decide
theorem decode_sub : decodeWord 0b00000001000010010101000000100010 = .instr (.sub 8 9 10) := by decide
theorem decode_subu : decodeWord 0b00000001000010010101000000100011 = .instr (.subu 8 9 10) := by decide
theorem decode_sw : decodeWord 0b10101101000010011000110001010011 = .instr (.sw 8 9 0x8C53) := by decide
theorem decode_swl : decodeWord 0b10101001000010011000110001010011 = .instr (.swl 8 9 0x8C53) := by decide
theorem decode_swr : decodeWord 0b10111001000010011000110001010011 = .instr (.swr 8 9 0x8C53) := by decide
theorem decode_syscall : decodeWord 0b00000010011110001110100111001100 = .instr (.syscall 0x9E3A7) := by decide
theorem decode_xor : decodeWord 0b00000001000010010101000000100110 = .instr (.xor 8 9 10) := by decide
theorem decode_xori : decodeWord 0b00111001000010011000110001010011 = .instr (.xori 8 9 0x8C53) := by decide
theorem decode_bal : decodeWord 0b00000100000100011000110001010011 = .instr (.bal 0x8C53) := by decide
theorem decode_synci : decodeWord 0b00000101000111111000110001010011 = .instr (.synci 8 0x8C53) := by decide
theorem decode_pref : decodeWord 0b11001101000101101000110001010011 = .instr (.pref 8 22 0x8C53) := by decide
theorem decode_teq : decodeWord 0b00000001000010011010110101110100 = .instr (.teq 8 9 0x2B5) := by decide
theorem decode_rotr : decodeWord 0b00000000001010010101010011000010 = .instr (.rotr 9 10 19) := by decide
theorem decode_rotrv : decodeWord 0b00000001000010010101000001000110 = .instr (.rotrv 8 9 10) := by decide
theorem decode_wsbh : decodeWord 0b01111100000010010101000010100000 = .instr (.wsbh 9 10) := by decide
theorem decode_ext : decodeWord 0b01111101000010010111100100000000 = .instr (.ext 8 9 15 4) := by decide
theorem decode_seh : decodeWord 0b01111100000010010101011000100000 = .instr (.seh 9 10) := by decide
theorem decode_seb : decodeWord 0b01111100000010010101010000100000 = .instr (.seb 9 10) := by decide
theorem decode_ins : decodeWord 0b01111101000010010111100100000100 = .instr (.ins 8 9 15 4) := by decide
theorem decode_maddu : decodeWord 0b01110001000010010000000000000001 = .instr (.maddu 8 9) := by decide
theorem decode_msubu : decodeWord 0b01110001000010010000000000000101 = .instr (.msubu 8 9) := by decide

/-! Words of section 2.9 and V45 that match no row. -/

theorem test_V45_reserved_srl_with_rs_field_2 : decodeWord 0x00400002 = .rejected (.reservedInstruction 0x00400002) := by decide
theorem test_V183_reserved_break : decodeWord 0x0000000D = .rejected (.reservedInstruction 0x0000000D) := by decide
theorem test_V185_reserved_add_with_shamt : decodeWord 0x01095060 = .rejected (.reservedInstruction 0x01095060) := by decide
theorem test_V186_reserved_lui_with_rs : decodeWord 0x3C290001 = .rejected (.reservedInstruction 0x3C290001) := by decide
theorem test_V187_reserved_regimm_18 : decodeWord 0x04120000 = .rejected (.reservedInstruction 0x04120000) := by decide
theorem test_V188_reserved_bal_with_rs : decodeWord 0x05110001 = .rejected (.reservedInstruction 0x05110001) := by decide
theorem test_V190_reserved_bshfl_31 : decodeWord 0x7C0947E0 = .rejected (.reservedInstruction 0x7C0947E0) := by decide
theorem test_V192_reserved_coprocessor_0 : decodeWord 0x40000000 = .rejected (.reservedInstruction 0x40000000) := by decide

/-- The host's reading of a table word, and its placement where the next step fetches. -/
theorem test_decodeTableWord : decodeTableWord 32 0x01095020 = some (.add 8 9 10) := by decide
theorem test_withFetchWord_from_reset :
    see 10 (State.reset.withFetchWord 32 0x01095020) = some (0xBD5A0011, 0x1004, 0x1008, false) := by decide
theorem test_step_of_ended_run :
    completes (step { State.reset with outcome := .halted 0 }) = false := by decide
/-- A run that the model refuses is not fault-free: a load of a byte without a value (log entries 5, 22). -/
theorem test_refused_run_is_not_faultFree :
    let s := boot .little [(8, 0x2008)] 0x91090000
    (runFor 1 s).notFaulted = true ∧ faultFree 0 s = true ∧ faultFree 1 s = false := by decide
theorem test_reset_fetch_faults : faultOf (step State.reset) = some (.accessFault .fetch 0x1000) := by decide

/-! ## Single steps (95_test_vectors.md section 2) -/

theorem test_add_wraps_on_overflow_V1 :
    see 10 (boot .little [(8, 0x7FFFFFFF), (9, 0x00000001)] 0x01095020) = some (0x80000000, 0x00001004, 0x00001008, false) := by decide
theorem test_add_to_register_0_V3 :
    see 0 (boot .little [(8, 0x00000005), (9, 0x00000007)] 0x01090020) = some (0x00000000, 0x00001004, 0x00001008, false) := by decide
theorem test_addu_drops_the_carry_V2 :
    see 10 (boot .little [(8, 0xFFFFFFFF), (9, 0x00000001)] 0x01095021) = some (0x00000000, 0x00001004, 0x00001008, false) := by decide
theorem test_addi_wraps_on_overflow_V4 :
    see 9 (boot .little [(8, 0x7FFFFFFF)] 0x21090001) = some (0x80000000, 0x00001004, 0x00001008, false) := by decide
theorem test_addiu_adds_minus_one_V5 :
    see 9 (boot .little [(8, 0x00000010)] 0x2509FFFF) = some (0x0000000F, 0x00001004, 0x00001008, false) := by decide
theorem test_sub_wraps_on_overflow_V7 :
    see 10 (boot .little [(8, 0x80000000), (9, 0x00000001)] 0x01095022) = some (0x7FFFFFFF, 0x00001004, 0x00001008, false) := by decide
theorem test_subu_wraps_V8 :
    see 10 (boot .little [(8, 0x00000000), (9, 0x00000001)] 0x01095023) = some (0xFFFFFFFF, 0x00001004, 0x00001008, false) := by decide
theorem test_slt_is_signed_V9 :
    see 10 (boot .little [(8, 0xFFFFFFFF), (9, 0x00000001)] 0x0109502A) = some (0x00000001, 0x00001004, 0x00001008, false) := by decide
theorem test_slt_extremes_V11 :
    see 10 (boot .little [(8, 0x80000000), (9, 0x7FFFFFFF)] 0x0109502A) = some (0x00000001, 0x00001004, 0x00001008, false) := by decide
theorem test_sltu_is_unsigned_V10 :
    see 10 (boot .little [(8, 0xFFFFFFFF), (9, 0x00000001)] 0x0109502B) = some (0x00000000, 0x00001004, 0x00001008, false) := by decide
theorem test_slti_is_signed_V12 :
    see 9 (boot .little [(8, 0xFFFFFFFE)] 0x2909FFFF) = some (0x00000001, 0x00001004, 0x00001008, false) := by decide
theorem test_slti_extreme_immediate_V13 :
    see 9 (boot .little [(8, 0x00000000)] 0x29098000) = some (0x00000000, 0x00001004, 0x00001008, false) := by decide
theorem test_sltiu_extends_then_compares_unsigned_V14 :
    see 9 (boot .little [(8, 0x0000FFFF)] 0x2D09FFFF) = some (0x00000001, 0x00001004, 0x00001008, false) := by decide
theorem test_sltiu_of_equals_V15 :
    see 9 (boot .little [(8, 0xFFFFFFFF)] 0x2D09FFFF) = some (0x00000000, 0x00001004, 0x00001008, false) := by decide
theorem test_and_bits_V16 :
    see 10 (boot .little [(8, 0xFF00FF00), (9, 0x0FF00FF0)] 0x01095024) = some (0x0F000F00, 0x00001004, 0x00001008, false) := by decide
theorem test_or_bits_V17 :
    see 10 (boot .little [(8, 0xFF00FF00), (9, 0x0FF00FF0)] 0x01095025) = some (0xFFF0FFF0, 0x00001004, 0x00001008, false) := by decide
theorem test_xor_bits_V18 :
    see 10 (boot .little [(8, 0xFF00FF00), (9, 0x0FF00FF0)] 0x01095026) = some (0xF0F0F0F0, 0x00001004, 0x00001008, false) := by decide
theorem test_nor_complements_the_disjunction_V19 :
    see 10 (boot .little [(8, 0xFF00FF00), (9, 0x0FF00FF0)] 0x01095027) = some (0x000F000F, 0x00001004, 0x00001008, false) := by decide
theorem test_andi_zero_extends_V21 :
    see 9 (boot .little [(8, 0xFFFFFFFF)] 0x31098001) = some (0x00008001, 0x00001004, 0x00001008, false) := by decide
theorem test_ori_zero_extends_into_rt_V22 :
    see 9 (boot .little [(8, 0x12340000)] 0x35098001) = some (0x12348001, 0x00001004, 0x00001008, false) := by decide
theorem test_xori_zero_extends_V23 :
    see 9 (boot .little [(8, 0xFFFFFFFF)] 0x3909FFFF) = some (0xFFFF0000, 0x00001004, 0x00001008, false) := by decide
theorem test_lui_clears_the_low_half_V24 :
    see 9 (boot .little [(9, 0xFFFFFFFF)] 0x3C098001) = some (0x80010000, 0x00001004, 0x00001008, false) := by decide
theorem test_clz_of_zero_V25 :
    see 10 (boot .little [(8, 0x00000000)] 0x710A5020) = some (0x00000020, 0x00001004, 0x00001008, false) := by decide
theorem test_clz_ignores_rt_V26 :
    see 10 (boot .little [(8, 0x00010000)] 0x71005020) = some (0x0000000F, 0x00001004, 0x00001008, false) := by decide
theorem test_clo_of_all_ones_V28 :
    see 10 (boot .little [(8, 0xFFFFFFFF)] 0x710A5021) = some (0x00000020, 0x00001004, 0x00001008, false) := by decide
theorem test_clo_counts_V29 :
    see 10 (boot .little [(8, 0xFFF0FFFF)] 0x710A5021) = some (0x0000000C, 0x00001004, 0x00001008, false) := by decide
theorem test_sll_nop_V31 : see 0 (boot .little [] 0x00000000) = some (0, 0x00001004, 0x00001008, false) := by decide
theorem test_sll_drops_bit_31_V32 :
    see 10 (boot .little [(9, 0x80000001)] 0x00095040) = some (0x00000002, 0x00001004, 0x00001008, false) := by decide
theorem test_srl_fills_zeros_V34 :
    see 10 (boot .little [(9, 0x80000000)] 0x000957C2) = some (0x00000001, 0x00001004, 0x00001008, false) := by decide
theorem test_sra_fills_the_sign_V35 :
    see 10 (boot .little [(9, 0x80000000)] 0x000957C3) = some (0xFFFFFFFF, 0x00001004, 0x00001008, false) := by decide
theorem test_sllv_takes_five_bits_V38 :
    see 10 (boot .little [(8, 0x00000024), (9, 0x00000001)] 0x01095004) = some (0x00000010, 0x00001004, 0x00001008, false) := by decide
theorem test_srlv_by_31_V39 :
    see 10 (boot .little [(8, 0xFFFFFFFF), (9, 0x80000000)] 0x01095006) = some (0x00000001, 0x00001004, 0x00001008, false) := by decide
theorem test_srav_fills_the_sign_V40 :
    see 10 (boot .little [(8, 0x00000008), (9, 0xF0000000)] 0x01095007) = some (0xFFF00000, 0x00001004, 0x00001008, false) := by decide
theorem test_rotr_by_8_V41 :
    see 10 (boot .little [(9, 0x12345678)] 0x00295202) = some (0x78123456, 0x00001004, 0x00001008, false) := by decide
theorem test_rotrv_by_28_V43 :
    see 10 (boot .little [(8, 0x0000003C), (9, 0x12345678)] 0x01095046) = some (0x23456781, 0x00001004, 0x00001008, false) := by decide
theorem test_mult_is_signed_V46 :
    seeHiLo { boot .little [(8, 0xFFFFFFFF), (9, 0xFFFFFFFF)] 0x01090018 with hi := 0xAAAAAAAA, lo := 0xBBBBBBBB } = some (0x00000000, 0x00000001) := by decide
theorem test_mult_sign_in_hi_V49 :
    seeHiLo { boot .little [(8, 0x80000000), (9, 0x00000002)] 0x01090018 with hi := 0x00000000, lo := 0x00000001 } = some (0xFFFFFFFF, 0x00000000) := by decide
theorem test_multu_is_unsigned_V47 :
    seeHiLo { boot .little [(8, 0xFFFFFFFF), (9, 0xFFFFFFFF)] 0x01090019 with hi := 0x00000000, lo := 0x00000000 } = some (0xFFFFFFFE, 0x00000001) := by decide
theorem test_mul_keeps_hi_lo_V50 :
    see 10 { boot .little [(8, 0x00010001), (9, 0x00010001)] 0x71095002 with hi := 0x11111111, lo := 0x22222222 } = some (0x00020001, 0x00001004, 0x00001008, false) := by decide
theorem test_mul_low_word_V51 :
    see 10 (boot .little [(8, 0xFFFFFFFF), (9, 0x00000003)] 0x71095002) = some (0xFFFFFFFD, 0x00001004, 0x00001008, false) := by decide
theorem test_div_truncates_V53 :
    seeHiLo { boot .little [(8, 0xFFFFFFF9), (9, 0x00000002)] 0x0109001A with hi := 0x00000000, lo := 0x00000000 } = some (0xFFFFFFFF, 0xFFFFFFFD) := by decide
theorem test_div_overflow_case_V55 :
    seeHiLo { boot .little [(8, 0x80000000), (9, 0xFFFFFFFF)] 0x0109001A with hi := 0x00000005, lo := 0x00000005 } = some (0x00000000, 0x80000000) := by decide
theorem test_divu_is_unsigned_V56 :
    seeHiLo { boot .little [(8, 0xFFFFFFF9), (9, 0x00000002)] 0x0109001B with hi := 0x00000000, lo := 0x00000000 } = some (0x00000001, 0x7FFFFFFC) := by decide
theorem test_divu_smaller_dividend_V57 :
    seeHiLo { boot .little [(8, 0x00000003), (9, 0x00000005)] 0x0109001B with hi := 0x00000009, lo := 0x00000009 } = some (0x00000003, 0x00000000) := by decide
theorem test_mfhi_copies_V59 :
    see 10 { boot .little [] 0x00005010 with hi := 0xDEADBEEF, lo := 0x00000001 } = some (0xDEADBEEF, 0x00001004, 0x00001008, false) := by decide
theorem test_mflo_copies_V60 :
    see 10 { boot .little [] 0x00005012 with hi := 0x00000001, lo := 0xCAFEF00D } = some (0xCAFEF00D, 0x00001004, 0x00001008, false) := by decide
theorem test_mthi_keeps_lo_V61 :
    seeHiLo { boot .little [(8, 0x12345678)] 0x01000011 with hi := 0x00000000, lo := 0x55555555 } = some (0x12345678, 0x55555555) := by decide
theorem test_mtlo_keeps_hi_V62 :
    seeHiLo { boot .little [(8, 0x12345678)] 0x01000013 with hi := 0x55555555, lo := 0x00000000 } = some (0x55555555, 0x12345678) := by decide
theorem test_lb_sign_extends_V63 :
    see 9 (boot .little [(8, 0x00002000)] 0x81090004) = some (0xFFFFFF80, 0x00001004, 0x00001008, false) := by decide
theorem test_lbu_zero_extends_V64 :
    see 9 (boot .little [(8, 0x00002000)] 0x91090004) = some (0x00000080, 0x00001004, 0x00001008, false) := by decide
theorem test_lh_little_V65 :
    see 9 (boot .little [(8, 0x00002000)] 0x85090004) = some (0xFFFFFF80, 0x00001004, 0x00001008, false) := by decide
theorem test_lh_big_V72 :
    see 9 (boot .big [(8, 0x00002000)] 0x85090004) = some (0xFFFF80FF, 0x00001004, 0x00001008, false) := by decide
theorem test_lhu_little_V66 :
    see 9 (boot .little [(8, 0x00002000)] 0x95090004) = some (0x0000FF80, 0x00001004, 0x00001008, false) := by decide
theorem test_lhu_big_V73 :
    see 9 (boot .big [(8, 0x00002000)] 0x95090004) = some (0x000080FF, 0x00001004, 0x00001008, false) := by decide
theorem test_lw_into_its_base_V77 :
    see 8 (boot .little [(8, 0x00002000)] 0x8D080004) = some (0x017FFF80, 0x00001004, 0x00001008, false) := by decide
theorem test_lw_wraps_V80 :
    see 9 (boot .little [(8, 0xFFFFFFFC)] 0x8D090004) = some (0x12345678, 0x00001004, 0x00001008, false) := by decide
theorem test_lwl_little_V82 :
    see 9 (boot .little [(8, 0x00002000), (9, 0xAABBCCDD)] 0x89090001) = some (0x2211CCDD, 0x00001004, 0x00001008, false) := by decide
theorem test_lwl_big_V90 :
    see 9 (boot .big [(8, 0x00002000), (9, 0xAABBCCDD)] 0x89090001) = some (0x223344DD, 0x00001004, 0x00001008, false) := by decide
theorem test_lwr_little_V86 :
    see 9 (boot .little [(8, 0x00002000), (9, 0xAABBCCDD)] 0x99090001) = some (0xAA443322, 0x00001004, 0x00001008, false) := by decide
theorem test_lwr_big_V94 :
    see 9 (boot .big [(8, 0x00002000), (9, 0xAABBCCDD)] 0x99090001) = some (0xAABB1122, 0x00001004, 0x00001008, false) := by decide
theorem test_sb_low_byte_V97 :
    seeBytes 0x00002000 4 (boot .little [(8, 0x00002000), (9, 0xAABBCCDD)] 0xA1090001) = some [some 0x11, some 0xDD, some 0x33, some 0x44] := by decide
theorem test_sh_little_V98 :
    seeBytes 0x00002000 4 (boot .little [(8, 0x00002000), (9, 0xAABBCCDD)] 0xA5090002) = some [some 0x11, some 0x22, some 0xDD, some 0xCC] := by decide
theorem test_sh_misaligned_V119 :
    faultOf (step (boot .little [(8, 0x00002000), (9, 0x00000001)] 0xA5090003)) = some (.addressError .store 0x00002003) := by decide
theorem test_sw_little_V99 :
    seeBytes 0x00002004 4 (boot .little [(8, 0x00002000), (9, 0xAABBCCDD)] 0xAD090004) = some [some 0xDD, some 0xCC, some 0xBB, some 0xAA] := by decide
theorem test_sw_big_V110 :
    seeBytes 0x00002004 4 (boot .big [(8, 0x00002000), (9, 0xAABBCCDD)] 0xAD090004) = some [some 0xAA, some 0xBB, some 0xCC, some 0xDD] := by decide
theorem test_swl_little_V101 :
    seeBytes 0x00002000 4 (boot .little [(8, 0x00002000), (9, 0xAABBCCDD)] 0xA9090001) = some [some 0xBB, some 0xAA, some 0x33, some 0x44] := by decide
theorem test_swl_big_V112 :
    seeBytes 0x00002000 4 (boot .big [(8, 0x00002000), (9, 0xAABBCCDD)] 0xA9090001) = some [some 0x11, some 0xAA, some 0xBB, some 0xCC] := by decide
theorem test_swr_little_V105 :
    seeBytes 0x00002000 4 (boot .little [(8, 0x00002000), (9, 0xAABBCCDD)] 0xB9090001) = some [some 0x11, some 0xDD, some 0xCC, some 0xBB] := by decide
theorem test_swr_big_V116 :
    seeBytes 0x00002000 4 (boot .big [(8, 0x00002000), (9, 0xAABBCCDD)] 0xB9090001) = some [some 0xCC, some 0xDD, some 0x33, some 0x44] := by decide
theorem test_ll_misaligned_V122 :
    faultOf (step (boot .little [(8, 0x00002000)] 0xC1090002)) = some (.addressError .load 0x00002002) := by decide
theorem test_beq_taken_V123 :
    see 8 (boot .little [(8, 0x00000005), (9, 0x00000005)] 0x11090003) = some (0x00000005, 0x00001004, 0x00001010, true) := by decide
theorem test_beq_not_taken_V124 :
    see 8 (boot .little [(8, 0x00000005), (9, 0x00000006)] 0x11090003) = some (0x00000005, 0x00001004, 0x00001008, true) := by decide
theorem test_bne_backward_V126 :
    see 8 (boot .little [(8, 0x00000005), (9, 0x00000006)] 0x1509FFFE) = some (0x00000005, 0x00001004, 0x00000FFC, true) := by decide
theorem test_bne_not_taken_V127 :
    see 8 (boot .little [(8, 0x00000005), (9, 0x00000005)] 0x1509FFFE) = some (0x00000005, 0x00001004, 0x00001008, true) := by decide
theorem test_bgez_of_zero_V128 :
    see 8 (boot .little [(8, 0x00000000)] 0x05010002) = some (0x00000000, 0x00001004, 0x0000100C, true) := by decide
theorem test_bgez_of_negative_V129 :
    see 8 (boot .little [(8, 0x80000000)] 0x05010002) = some (0x80000000, 0x00001004, 0x00001008, true) := by decide
theorem test_bgtz_of_zero_V130 :
    see 8 (boot .little [(8, 0x00000000)] 0x1D000002) = some (0x00000000, 0x00001004, 0x00001008, true) := by decide
theorem test_bgtz_of_one_V131 :
    see 8 (boot .little [(8, 0x00000001)] 0x1D000002) = some (0x00000001, 0x00001004, 0x0000100C, true) := by decide
theorem test_blez_of_zero_V132 :
    see 8 (boot .little [(8, 0x00000000)] 0x19000002) = some (0x00000000, 0x00001004, 0x0000100C, true) := by decide
theorem test_blez_of_minus_one_V133 :
    see 8 (boot .little [(8, 0xFFFFFFFF)] 0x19000002) = some (0xFFFFFFFF, 0x00001004, 0x0000100C, true) := by decide
theorem test_bltz_of_minus_one_V134 :
    see 8 (boot .little [(8, 0xFFFFFFFF)] 0x05000002) = some (0xFFFFFFFF, 0x00001004, 0x0000100C, true) := by decide
theorem test_bltz_of_zero_V135 :
    see 8 (boot .little [(8, 0x00000000)] 0x05000002) = some (0x00000000, 0x00001004, 0x00001008, true) := by decide
theorem test_j_target_V138 : see 0 (boot .little [] 0x08000800) = some (0, 0x00001004, 0x00002000, true) := by decide
theorem test_jal_links_V140 : see 31 (boot .little [] 0x0C000800) = some (0x00001008, 0x00001004, 0x00002000, true) := by decide
theorem test_jr_misaligned_target_is_no_fault_yet_V142 :
    see 31 (boot .little [(31, 0x00001236)] 0x03E00008) = some (0x00001236, 0x00001004, 0x00001236, true) := by decide
theorem test_jalr_reads_its_target_first_V144 :
    see 8 (boot .little [(8, 0x00003000)] 0x01004009) = some (0x00001008, 0x00001004, 0x00003000, true) := by decide
theorem test_jalr_drops_the_link_V145 :
    see 8 (boot .little [(8, 0x00003000)] 0x01000009) = some (0x00003000, 0x00001004, 0x00003000, true) := by decide
theorem test_bal_links_V146 : see 31 (boot .little [] 0x04110004) = some (0x00001008, 0x00001004, 0x00001014, true) := by decide
theorem test_syscall_halts_V149 :
    seeEnd (boot .little [(2, 0x00000000), (4, 0x00000007)] 0x03FFFFCC) = some (.halted 0x00000007, 0x1000, 0x1004) := by decide
theorem test_movn_moves_V154 :
    see 10 (boot .little [(8, 0x11111111), (9, 0x00000001), (10, 0x22222222)] 0x0109500B) = some (0x11111111, 0x00001004, 0x00001008, false) := by decide
theorem test_movn_keeps_V155 :
    see 10 (boot .little [(8, 0x11111111), (9, 0x00000000), (10, 0x22222222)] 0x0109500B) = some (0x22222222, 0x00001004, 0x00001008, false) := by decide
theorem test_movz_moves_V156 :
    see 10 (boot .little [(8, 0x11111111), (9, 0x00000000), (10, 0x22222222)] 0x0109500A) = some (0x11111111, 0x00001004, 0x00001008, false) := by decide
theorem test_movz_keeps_V157 :
    see 10 (boot .little [(8, 0x11111111), (9, 0x80000000), (10, 0x22222222)] 0x0109500A) = some (0x22222222, 0x00001004, 0x00001008, false) := by decide
theorem test_teq_of_unequal_V158 :
    see 8 (boot .little [(8, 0x00000001), (9, 0x00000002)] 0x01090034) = some (0x00000001, 0x00001004, 0x00001008, false) := by decide
theorem test_teq_traps_with_its_code_V159 :
    faultOf (step (boot .little [(8, 0x00000003), (9, 0x00000003)] 0x010901F4)) = some (.trap 0x007) := by decide
theorem test_seb_negative_V161 :
    see 10 (boot .little [(9, 0x12345680)] 0x7C095420) = some (0xFFFFFF80, 0x00001004, 0x00001008, false) := by decide
theorem test_seb_positive_V162 :
    see 10 (boot .little [(9, 0xFFFFFF7F)] 0x7C095420) = some (0x0000007F, 0x00001004, 0x00001008, false) := by decide
theorem test_seh_negative_V163 :
    see 10 (boot .little [(9, 0x12348000)] 0x7C095620) = some (0xFFFF8000, 0x00001004, 0x00001008, false) := by decide
theorem test_seh_positive_V164 :
    see 10 (boot .little [(9, 0xFFFF7FFF)] 0x7C095620) = some (0x00007FFF, 0x00001004, 0x00001008, false) := by decide
theorem test_wsbh_swaps_in_halves_V165 :
    see 10 (boot .little [(9, 0x11223344)] 0x7C0950A0) = some (0x22114433, 0x00001004, 0x00001008, false) := by decide
theorem test_ext_zero_extends_V166 :
    see 9 (boot .little [(8, 0x12345678)] 0x7D093A00) = some (0x00000056, 0x00001004, 0x00001008, false) := by decide
theorem test_ext_out_of_range_V169 :
    faultOf (step (boot .little [(8, 0xFFFFFFFF)] 0x7D097D00)) = some (.badBitfield 0x7D097D00) := by decide
theorem test_ins_inserts_V170 :
    see 9 (boot .little [(8, 0x000000AB), (9, 0xFFFFFFFF)] 0x7D097A04) = some (0xFFFFABFF, 0x00001004, 0x00001008, false) := by decide
theorem test_ins_out_of_range_V173 :
    faultOf (step (boot .little [(8, 0x0000000F), (9, 0x12345678)] 0x7D091904)) = some (.badBitfield 0x7D091904) := by decide
theorem test_maddu_adds_V174 :
    seeHiLo { boot .little [(8, 0xFFFFFFFF), (9, 0xFFFFFFFF)] 0x71090001 with hi := 0x00000000, lo := 0x00000001 } = some (0xFFFFFFFE, 0x00000002) := by decide
theorem test_maddu_wraps_V175 :
    seeHiLo { boot .little [(8, 0xFFFFFFFF), (9, 0xFFFFFFFF)] 0x71090001 with hi := 0xFFFFFFFF, lo := 0xFFFFFFFF } = some (0xFFFFFFFE, 0x00000000) := by decide
theorem test_msubu_wraps_V176 :
    seeHiLo { boot .little [(8, 0x00000002), (9, 0x00000003)] 0x71090005 with hi := 0x00000000, lo := 0x00000005 } = some (0xFFFFFFFF, 0xFFFFFFFF) := by decide
theorem test_msubu_subtracts_V177 :
    seeHiLo { boot .little [(8, 0x00010000), (9, 0x00010000)] 0x71090005 with hi := 0x00000002, lo := 0x00000000 } = some (0x00000001, 0x00000000) := by decide
theorem test_sync_ignores_stype_V179 : see 0 (boot .little [] 0x000007CF) = some (0, 0x00001004, 0x00001008, false) := by decide
theorem test_synci_computes_no_address_V180 :
    see 8 (boot .little [(8, 0x00000003)] 0x051FFFFF) = some (0x00000003, 0x00001004, 0x00001008, false) := by decide
theorem test_pref_computes_no_address_V181 :
    see 8 (boot .little [(8, 0xFFFFFFFF)] 0xCD1F0001) = some (0xFFFFFFFF, 0x00001004, 0x00001008, false) := by decide

/-- A reply of the environment (V153): the result word, the reservation lost. -/
theorem test_syscall_answered_V153 :
    see 2 { boot .little [(2, 0xF0)] 0x0000000C with replies := [.answer ⟨0xF0, 0xDEAD0004, 0xDEAD0005⟩ (some 0x10) [] ⟨[], [], [], []⟩] }
      = some (0x10, 0x1004, 0x1008, false) := by decide

/-! ## Load-linked and store-conditional (section 2.10, S5 to S7) -/

/-- The state after LL at 0x2000 into `x[9]`, under a policy of SC. -/
def linked (policy : ScPolicy) : State :=
  after State.reset (exec (.ll 8 9 0) (machine { vectorParams .little with scPolicy := policy } [(8, 0x2000)]))

theorem test_ll_reserves_V121 :
    ((linked .strict).gpr 9, (linked .strict).llValid, (linked .strict).llAddr) = (0x44332211, true, 0x2000) := by decide
theorem test_sc_strict_without_ll_S5 :
    (after State.reset (exec (.sc 8 9 0) (machine { vectorParams .little with scPolicy := .strict }
      [(8, 0x2000), (9, 0xA1B2C3D4)]))).gpr 9 = 0 := by decide
theorem test_sc_stores_register_0_S7 :
    let t := after State.reset (exec (.sc 8 0 0) (linked .guarded))
    (t.gpr 0, Memory.read t.mem 0x2000, Memory.read t.mem 0x2003, t.llValid) = (0, some 0, some 0, false) := by decide


/-! ## Witnesses: states and operands that meet the hypotheses of the obligations, clause by clause

`wide` accepts loads and stores at the bytes around the top of the address space and around 0x2000, so that the first and the last
legal address stand beside an illegal one. -/

/-- The parameters of the witnesses. -/
def wideParams (order : ByteOrder) : Params :=
  { defaultParams with
    byteOrder := order
    memMap := [⟨0x2000, 8, false, true, true⟩, ⟨0xFFFFFFFC, 4, false, true, true⟩, ⟨0, 4, false, true, true⟩] }

/-- A machine with data at 0x2000, at the top of the address space and at 0. -/
def wide (order : ByteOrder) (base : Word) : State :=
  { machine (wideParams order) [(8, base), (9, 0xAABBCCDD)] with
    mem := vectorMem ++ [(0xFFFFFFFC, 0xA0), (0xFFFFFFFD, 0xA1), (0xFFFFFFFE, 0xA2), (0xFFFFFFFF, 0xA3)] }

/-- The next state of an instruction. -/
def next (i : Instr) (s : State) : State := after State.reset (exec i s)

theorem wit_LogicAndLuiActBitByBit : (1 : RegIdx) ≠ 0 ∧ (31 : RegIdx) ≠ 0 := by decide

theorem wit_CountLeadingBits :
    let s := machine defaultParams [(8, 0xFFF0FFFF)]
    let s' := machine defaultParams [(9, 0x000F0000)]
    s'.gpr 9 = ~~~(s.gpr 8) ∧ (10 : RegIdx) ≠ 0 ∧ (31 : RegIdx) ≠ 0
      ∧ exec (.clo 8 0 10) s = .next (next (.clo 8 0 10) s) ∧ exec (.clz 9 0 31) s' = .next (next (.clz 9 0 31) s') :=
  ⟨by decide, by decide, by decide, eq_next_after _ (by decide), eq_next_after _ (by decide)⟩

/-- The signed clause at both signs of the dividend, at 0, and in the overflow case. -/
theorem wit_DivideByNonzero :
    let s := machine defaultParams [(8, 0x80000000), (9, 0xFFFFFFFF), (10, 7)]
    s.gpr 9 ≠ 0 ∧ s.gpr 10 ≠ 0 ∧ (s.gpr 8 = 0x80000000 ∧ s.gpr 9 = 0xFFFFFFFF)
      ∧ 0 ≤ (s.gpr 10).toInt ∧ (s.gpr 8).toInt ≤ 0 ∧ 0 ≤ (s.gpr 0).toInt ∧ (s.gpr 0).toInt ≤ 0 := by decide

theorem wit_DivideByZeroTakesTheParameter :
    (machine defaultParams []).gpr 0 = 0 ∧ (machine defaultParams []).par.divByZero = .draw
      ∧ (machine { defaultParams with divByZero := .values 7 0xFFFFFFFF } []).par.divByZero = .values 7 0xFFFFFFFF := by
  decide

/-- Loads and stores of one byte: the last valid address, and the first invalid one. -/
theorem wit_LoadByteExtends_and_StoreByteStoresLowByte :
    let s := wide .little 0x2000
    Params.valid s.par .load (effAddr s 8 7) = true ∧ Memory.read s.mem (effAddr s 8 7).toNat = some 0x01
      ∧ Params.valid s.par .store (effAddr s 8 7) = true
      ∧ Params.valid s.par .load (effAddr s 8 8) = false ∧ Params.valid s.par .store (effAddr s 8 8) = false := by decide

/-- An aligned word at the last valid address: what LH, LHU, LW, LL, SH, SW and SC need, in both byte orders. -/
def AlignedWordReady (order : ByteOrder) : Prop :=
  let s := wide order 0x2000
  (effAddr s 8 4).toNat % 2 = 0 ∧ (effAddr s 8 4).toNat % 4 = 0
    ∧ ValidBytes s .load (effAddr s 8 4) 2 ∧ ValidBytes s .load (effAddr s 8 4) 4
    ∧ ValidBytes s .store (effAddr s 8 4) 2 ∧ ValidBytes s .store (effAddr s 8 4) 4
    ∧ ByteAt s (effAddr s 8 4) 0 0x80 ∧ ByteAt s (effAddr s 8 4) 1 0xFF
    ∧ ByteAt s (effAddr s 8 4) 2 0x7F ∧ ByteAt s (effAddr s 8 4) 3 0x01

theorem wit_LoadHalfAndWordInByteOrder_and_LoadLinkedReserves_little : AlignedWordReady .little := by
  unfold AlignedWordReady ValidBytes ByteAt; decide

theorem wit_LoadHalfAndWordInByteOrder_and_LoadLinkedReserves_big : AlignedWordReady .big := by
  unfold AlignedWordReady ValidBytes ByteAt; decide

theorem wit_StoreHalfAndWordInByteOrder :
    let s := wide .big 0x2000
    (effAddr s 8 6).toNat % 2 = 0 ∧ ValidBytes s .store (effAddr s 8 6) 2
      ∧ (effAddr s 8 4).toNat % 4 = 0 ∧ ValidBytes s .store (effAddr s 8 4) 4 := by
  unfold ValidBytes; decide

/-- The bytes LWL and LWR move, at both ends of the word. -/
theorem wit_UnalignedLoadsMerge :
    let m := fun i : Nat => if i = 0 then (0x80 : Byte) else if i = 1 then 0xFF else if i = 2 then 0x7F else 0x01
    ∀ order ∈ [ByteOrder.little, .big], ∀ off ∈ [(4 : BitVec 16), 7],
      let s := wide order 0x2000
      let addr := effAddr s 8 off
      (∀ i < 4, ByOrder order (i ≤ lowBits addr) (lowBits addr ≤ i) →
        Params.valid s.par .load (alignedWord addr + BitVec.ofNat 32 i) = true ∧ ByteAt s (alignedWord addr) i (m i))
      ∧ (∀ i < 4, ByOrder order (lowBits addr ≤ i) (i ≤ lowBits addr) →
        Params.valid s.par .load (alignedWord addr + BitVec.ofNat 32 i) = true ∧ ByteAt s (alignedWord addr) i (m i)) := by
  intro m order ho off hf
  simp only [List.mem_cons, List.not_mem_nil, or_false] at ho hf
  rcases ho with rfl | rfl <;> rcases hf with rfl | rfl <;> simp only [ByOrder] <;> unfold ByteAt lowBits <;> decide

/-- The bytes SWL and SWR move, at both ends of the word. -/
theorem wit_UnalignedStoresMoveTheirBytes :
    let s := wide .little 0x2000
    let t := wide .big 0x2000
    s.par.byteOrder = .little ∧ t.par.byteOrder = .big
      ∧ ValidBytes s .store (alignedWord (effAddr s 8 7)) (lowBits (effAddr s 8 7) + 1)
      ∧ ValidBytes s .store (alignedWord (effAddr s 8 4)) (lowBits (effAddr s 8 4) + 1)
      ∧ ValidBytes s .store (effAddr s 8 7) (4 - lowBits (effAddr s 8 7))
      ∧ ValidBytes s .store (effAddr s 8 4) (4 - lowBits (effAddr s 8 4))
      ∧ ValidBytes t .store (alignedWord (effAddr t 8 7)) (lowBits (effAddr t 8 7) + 1)
      ∧ ValidBytes t .store (effAddr t 8 4) (4 - lowBits (effAddr t 8 4)) := by
  unfold ValidBytes; decide

/-- SC under each policy; under `guarded` with the reservation held and without. -/
theorem wit_StoreConditionalFollowsPolicy :
    ∀ p ∈ [ScPolicy.guarded, .strict, .always, .draw],
      let s := { linked p with par := { (linked p).par with scPolicy := p } }
      (effAddr s 8 0).toNat % 4 = 0 ∧ ValidBytes s .store (effAddr s 8 0) 4 ∧ s.par.scPolicy = p
        ∧ s.llValid = true ∧ s.llAddr = effAddr s 8 0 ∧ s.llAddr ≠ effAddr s 8 4
        ∧ (effAddr s 8 4).toNat % 4 = 0 ∧ ValidBytes s .store (effAddr s 8 4) 4 := by
  unfold ValidBytes; decide

theorem wit_AlignedAccessChecks :
    let s := wide .little 0x2000
    (effAddr s 8 1).toNat % 2 ≠ 0 ∧ (effAddr s 8 2).toNat % 4 ≠ 0
      ∧ ¬(effAddr s 8 8).toNat % 2 ≠ 0 ∧ ¬(effAddr s 8 8).toNat % 4 ≠ 0
      ∧ ¬ValidBytes s .load (effAddr s 8 8) 2 ∧ ¬ValidBytes s .store (effAddr s 8 8) 2
      ∧ ¬ValidBytes s .load (effAddr s 8 8) 4 ∧ ¬ValidBytes s .store (effAddr s 8 8) 4 := by
  unfold ValidBytes; decide

/-- Both sides of each equivalence. -/
theorem wit_UnalignedAccessChecksMovedBytes :
    let s := wide .little 0x2000
    s.par.byteOrder = .little ∧ (wide .big 0x2000).par.byteOrder = .big
      ∧ ¬ValidBytes s .load (alignedWord (effAddr s 8 8)) (lowBits (effAddr s 8 8) + 1)
      ∧ ValidBytes s .load (alignedWord (effAddr s 8 7)) (lowBits (effAddr s 8 7) + 1)
      ∧ ¬ValidBytes s .store (effAddr s 8 11) (4 - lowBits (effAddr s 8 11))
      ∧ ValidBytes s .store (effAddr s 8 5) (4 - lowBits (effAddr s 8 5)) := by
  unfold ValidBytes; decide

/-- The idioms across the top of the address space, and at an aligned address. -/
theorem wit_UnalignedLoadIdiom_and_UnalignedStoreIdiom :
    ∀ order ∈ [ByteOrder.little, .big],
      let s := wide order 0xFFFFFFFE
      (0xFFFFFFFE : Word) = effAddr s 8 0 ∧ (3 : BitVec 16).toInt = (0 : BitVec 16).toInt + 3
        ∧ (9 : RegIdx) ≠ 0 ∧ (9 : RegIdx) ≠ 8
        ∧ ValidBytes s .load 0xFFFFFFFE 4 ∧ ValidBytes s .store 0xFFFFFFFE 4
        ∧ ByteAt s 0xFFFFFFFE 0 0xA2 ∧ ByteAt s 0xFFFFFFFE 1 0xA3 ∧ ByteAt s 0xFFFFFFFE 2 0x78 ∧ ByteAt s 0xFFFFFFFE 3 0x56 := by
  unfold ValidBytes ByteAt; decide

/-- The largest offset for which the second instruction of an idiom has one. -/
theorem wit_UnalignedIdiom_offsets :
    (0x7FFF : BitVec 16).toInt = (0x7FFC : BitVec 16).toInt + 3 ∧ (0x0002 : BitVec 16).toInt = (0xFFFF : BitVec 16).toInt + 3 := by
  decide

theorem wit_LoadsSeeTheStoredWord :
    let s := wide .big 0x2000
    memWrite s 0x2004 4 0x12345678 = .next (after s (memWrite s 0x2004 4 0x12345678)) ∧ ValidBytes s .load 0x2004 4 :=
  ⟨eq_next_after _ (by decide), by unfold ValidBytes; decide⟩

theorem wit_LinkedStoreSucceeds :
    let s := machine (vectorParams .little) [(8, 0x2000)]
    let t := next (.ll 8 9 0) s
    let u := next (.addiu 9 9 1) t
    exec (.ll 8 9 0) s = .next t ∧ Executes [.addiu 9 9 1] t u ∧ (∀ i ∈ [Instr.addiu 9 9 1], keepsReservation i = true)
      ∧ effAddr u 8 0 = effAddr s 8 0 ∧ ValidBytes s .store (effAddr s 8 0) 4 ∧ s.par.scPolicy ≠ .draw := by
  intro s t u
  refine ⟨eq_next_after _ (by decide), ⟨u, eq_next_after _ (by decide), rfl⟩, by decide, by decide, ?_, by decide⟩
  unfold ValidBytes; decide

/-- A control transfer outside a delay slot, and inside one under `execute`. -/
theorem wit_BranchesGoToTheTarget_and_JumpsLinkAndGo :
    let s := machine defaultParams [(8, 5), (9, 5)]
    let t := { machine { defaultParams with delaySlotBranch := .execute } [] with ds := true }
    ¬(s.ds = true ∧ s.par.delaySlotBranch = .fault) ∧ ¬(t.ds = true ∧ t.par.delaySlotBranch = .fault)
      ∧ (0x00021000 : Word) = BitVec.ofInt 32 (s.pc.toNat + 4 + 4 * (0x7FFF : BitVec 16).toInt)
      ∧ (0xFFFE1004 : Word) = BitVec.ofInt 32 (s.pc.toNat + 4 + 4 * (0x8000 : BitVec 16).toInt)
      ∧ (0x0FFFFFFC : Word) = BitVec.ofNat 32 ((s.pc + 4).toNat / 2 ^ 28 * 2 ^ 28 + 4 * (0x3FFFFFF : BitVec 26).toNat) := by
  decide

theorem wit_TransferInDelaySlotFaults :
    let s := { machine defaultParams [] with ds := true }
    controlTransfer (.jr 31 0) = true ∧ s.ds = true ∧ s.par.delaySlotBranch = .fault
      ∧ exec (.jr 31 0) s = .fault (.delaySlotBranch 0x1000) :=
  ⟨by decide, by decide, by decide, eq_fault (by decide)⟩

theorem wit_HaltEndsTheRun :
    let s := machine defaultParams [(2, 0), (4, 7)]
    s.gpr s.par.syscallNumReg = 0 := by decide

/-- An answer that writes the same byte twice, with a result and without. -/
theorem wit_AnsweredServiceTakesEffect :
    let e : Environment := ⟨[], [1], [], []⟩
    let w : List (Word × Byte) := [(0x2000, 1), (0x2007, 2), (0x2000, 3)]
    let call : SyscallRequest := ⟨0x000000F0, 0xDEAD0004, 0xDEAD0005⟩
    let s := { (wide .little 0x2000).setGpr 2 0x000000F0 with
      replies := [.answer call (some 5) w e, .answer call none w e] }
    (Service.syshintlen, s.gpr s.par.syscallNumReg) ∈ syscallTable ∧ Service.syshintlen ≠ .halt
      ∧ s.replies = .answer (requestOf s) (some 5) w e :: [.answer call none w e]
      ∧ (∀ c ∈ w, Params.valid s.par .store c.1 = true)
      ∧ w = [(0x2000, 1), (0x2007, 2)] ++ (0x2000, 3) :: [] ∧ (∀ c ∈ ([] : List (Word × Byte)), c.1 ≠ 0x2000)
      ∧ (∀ c ∈ w, c.1.toNat ≠ 0x2001) :=
  ⟨by decide, by decide, by decide, by
      intro c hc
      simp only [List.mem_cons, List.not_mem_nil, or_false] at hc
      rcases hc with rfl | rfl | rfl <;> decide,
    by decide, fun _ h => absurd h List.not_mem_nil, by
      intro c hc
      simp only [List.mem_cons, List.not_mem_nil, or_false] at hc
      rcases hc with rfl | rfl | rfl <;> decide⟩

/-- An unknown number one past HALT, and the four ways in which a listed service is refused. -/
theorem wit_SystemCallFaults :
    let s := machine (vectorParams .little) [(2, 1)]
    let t := machine (vectorParams .little) [(2, 2)]
    let other : SyscallRequest := ⟨2, 0, 0⟩
    (∀ v ∈ services, (v, s.gpr s.par.syscallNumReg) ∉ syscallTable)
      ∧ (Service.write, t.gpr t.par.syscallNumReg) ∈ syscallTable ∧ Service.write ≠ .halt ∧ t.replies = []
      ∧ { t with replies := [.refuse] }.replies.head? = some .refuse
      ∧ { t with replies := [.answer other none [] t.env] }.replies.head? = some (.answer other none [] t.env)
      ∧ other ≠ requestOf t
      ∧ { t with replies := [.answer (requestOf t) none [(0x2100, 0)] t.env] }.replies.head?
          = some (.answer (requestOf t) none [(0x2100, 0)] t.env)
      ∧ Params.valid t.par .store 0x2100 = false := by
  decide

/-- The first hypothesis of that statement in its own words. -/
theorem wit_SystemCallFaults_unknown (v : Service) :
    (v, (machine (vectorParams .little) [(2, 1)]).gpr 2) ∉ syscallTable := by
  cases v <;> decide

theorem wit_WordSwapBytesInHalves : (10 : RegIdx) ≠ 0 ∧ (31 : RegIdx) ≠ 0 := by decide

theorem wit_TrapIfEqual :
    let s := machine defaultParams [(8, 3), (9, 3)]
    s.gpr 8 = s.gpr 9 ∧ s.gpr 8 ≠ s.gpr 0 := by decide

/-- The last legal fields, and the first illegal ones. -/
theorem wit_BitFieldsInRange_and_BitFieldsOutOfRange :
    (11 : BitVec 5).toNat + (20 : BitVec 5).toNat ≤ 31 ∧ 31 < (12 : BitVec 5).toNat + (20 : BitVec 5).toNat
      ∧ (20 : BitVec 5).toNat ≤ (20 : BitVec 5).toNat ∧ (19 : BitVec 5).toNat < (20 : BitVec 5).toNat
      ∧ (machine defaultParams []).par.bitfieldRange = .fault
      ∧ (machine { defaultParams with bitfieldRange := .draw } []).par.bitfieldRange = .draw := by decide

theorem wit_EncodeOfDecode : decodeWord 0x05010004 = .instr (.bgez 8 4) := by decide

/-- A word that one row matches: the two rows of the statement are then the same. -/
theorem wit_AtMostOneRowMatches :
    ∃ r, opcodeTable[0]? = some r ∧ (0x01095020 : Word) &&& r.mask = r.pattern :=
  ⟨_, rfl, by decide⟩

/-- An instruction at a fetch-valid, aligned `pc`, in both byte orders. -/
theorem wit_StepRunsTheDecodedInstruction :
    ∀ order ∈ [ByteOrder.little, .big],
      let s := boot order [(8, 1), (9, 2)] 0x01095020
      s.outcome = .running ∧ s.pc.toNat % 4 = 0 ∧ ValidBytes s .fetch s.pc 4
        ∧ ByteAt s s.pc 0 (storedByte order 4 0x01095020 0) ∧ ByteAt s s.pc 1 (storedByte order 4 0x01095020 1)
        ∧ ByteAt s s.pc 2 (storedByte order 4 0x01095020 2) ∧ ByteAt s s.pc 3 (storedByte order 4 0x01095020 3)
        ∧ decodeWord (word order (storedByte order 4 0x01095020 0) (storedByte order 4 0x01095020 1)
            (storedByte order 4 0x01095020 2) (storedByte order 4 0x01095020 3)) = .instr (.add 8 9 10) := by
  unfold ValidBytes ByteAt; decide

/-- A misaligned `pc`; an aligned one whose bytes are not fetch-valid; a word that no row matches. -/
theorem wit_FetchAndDecodeFaults :
    let s := { State.reset with pc := 0x1002 }
    let u := boot .little [] 0xFFFFFFFF
    s.outcome = .running ∧ s.pc.toNat % 4 ≠ 0
      ∧ State.reset.outcome = .running ∧ State.reset.pc.toNat % 4 = 0 ∧ ¬ValidBytes State.reset .fetch State.reset.pc 4
      ∧ u.outcome = .running ∧ u.pc.toNat % 4 = 0 ∧ ValidBytes u .fetch u.pc 4
      ∧ ByteAt u u.pc 0 0xFF ∧ ByteAt u u.pc 1 0xFF ∧ ByteAt u u.pc 2 0xFF ∧ ByteAt u u.pc 3 0xFF
      ∧ (∀ r ∈ opcodeTable, word u.par.byteOrder 0xFF 0xFF 0xFF 0xFF &&& r.mask ≠ r.pattern) := by
  unfold ValidBytes ByteAt; decide

theorem wit_FaultEndsTheRunAndChangesNothing : step State.reset = .fault (.accessFault .fetch 0x1000) :=
  eq_fault (by decide)

/-- Two steps with a next state: one that runs on, and one that halts. -/
theorem wit_OnlyHaltStopsWithoutFault_and_StepKeepsTheInvariant :
    let s := boot .little [(8, 1), (9, 2)] 0x01095020
    let h := boot .little [(2, 0), (4, 7)] 0x0000000C
    s.wf = true ∧ step s = .next (after s (step s)) ∧ h.wf = true ∧ step h = .next (after h (step h))
      ∧ (after h (step h)).outcome = .halted 7 :=
  ⟨by decide, eq_next_after _ (by decide), by decide, eq_next_after _ (by decide), by decide⟩

/-- An instruction that executes, and what it does not write. -/
theorem wit_RegistersChangeOnlyAsDestinations_and_HiLoChangeOnlyByTheirWriters :
    let s := machine defaultParams [(8, 1), (9, 2)]
    exec (.add 8 9 10) s = .next (next (.add 8 9 10) s) ∧ (9 : RegIdx) ∉ destinations s.par (.add 8 9 10)
      ∧ (0 : RegIdx) ∉ destinations s.par (.add 8 9 10)
      ∧ writesHi (.add 8 9 10) = false ∧ writesLo (.add 8 9 10) = false
      ∧ exec (.mthi 8) s = .next (next (.mthi 8) s) ∧ writesLo (.mthi 8) = false
      ∧ exec (.mtlo 8) s = .next (next (.mtlo 8) s) ∧ writesHi (.mtlo 8) = false :=
  ⟨eq_next_after _ (by decide), by decide, by decide, by decide, by decide, eq_next_after _ (by decide), by decide,
    eq_next_after _ (by decide), by decide⟩

theorem wit_OnlyStoreValidBytesChange :
    let s := wide .little 0x2000
    exec (.sb 8 9 7) s = .next (next (.sb 8 9 7) s)
      ∧ Memory.read (next (.sb 8 9 7) s).mem (0x2007 : Word).toNat ≠ Memory.read s.mem (0x2007 : Word).toNat :=
  ⟨eq_next_after _ (by decide), by decide⟩

theorem wit_ReservationChangesOnlyAsStated :
    let s := wide .little 0x2000
    let l := next (.ll 8 9 4) s
    exec (.add 8 9 10) s = .next (next (.add 8 9 10) s) ∧ keepsReservation (.add 8 9 10) = true
      ∧ exec (.ll 8 9 4) s = .next l ∧ l.llAddr ≠ s.llAddr ∧ l.llValid = true ∧ s.llValid = false
      ∧ exec (.sc 8 9 4) l = .next (next (.sc 8 9 4) l)
      ∧ exec (.sb 8 9 7) l = .next (next (.sb 8 9 7) l) ∧ (next (.sb 8 9 7) l).llValid = false :=
  ⟨eq_next_after _ (by decide), by decide, eq_next_after _ (by decide), by decide, by decide, by decide,
    eq_next_after _ (by decide), eq_next_after _ (by decide), by decide⟩

/-- A control transfer, and another instruction. -/
theorem wit_DelaySlotFlagFollowsTransfers :
    let s := machine defaultParams [(8, 1)]
    exec (.bgtz 8 2) s = .next (next (.bgtz 8 2) s) ∧ exec (.sync 0) s = .next (next (.sync 0) s) ∧ s.outcome = .running
      ∧ (next (.bgtz 8 2) s).outcome = .running ∧ (next (.sync 0) s).outcome = .running :=
  ⟨eq_next_after _ (by decide), eq_next_after _ (by decide), by decide, by decide, by decide⟩

theorem wit_ProgramTextNeverChanges :
    let s := boot .little [] 0x0000000F
    Params.disjoint s.par = true ∧ Params.valid s.par .fetch 0x1000 = true ∧ Params.valid s.par .fetch 0x1003 = true := by
  decide

theorem wit_StartState : (1 : RegIdx) ≠ 0 ∧ (31 : RegIdx) ≠ 0 := by decide

end Sys2Proof.Tests
end

/-! SUPPORT. Decoding goes by the one row that accepts a word: the rows of the opcode table are pairwise disjoint (30_encoding.md
R109), and a word that no row accepts is reserved (R110). -/

namespace Sys2Proof

/-- The patterns of two rows differ in a bit that both masks look at. -/
def Row.Separate (r q : Row) : Prop := r.pattern &&& (r.mask &&& q.mask) ≠ q.pattern &&& (r.mask &&& q.mask)

theorem Row.accepts_iff {r : Row} {w : Word} : r.accepts w = true ↔ w &&& r.mask = r.pattern := by
  simp [Row.accepts]

/-- Under both masks, a word that two rows accept is the pattern of each. -/
theorem Row.Separate.not_both_accept {r q : Row} (h : r.Separate q) {w : Word} (hr : r.accepts w = true) :
    ¬ q.accepts w = true := by
  intro hq
  rw [Row.accepts_iff] at hr hq
  apply h
  calc r.pattern &&& (r.mask &&& q.mask)
      = w &&& (r.mask &&& q.mask) := by rw [← hr]; ac_nf
    _ = q.pattern &&& (r.mask &&& q.mask) := by rw [← hq]; ac_nf

/-- R109: no word matches two of the 76 rows. -/
theorem opcodeTable_pairwise_separate : opcodeTable.Pairwise Row.Separate := by
  unfold Row.Separate
  decide

/-- Among disjoint rows, the search finds the one that accepts. -/
theorem find?_accepts_of_pairwise_separate {w : Word} {r : Row} {rows : List Row} (hsep : rows.Pairwise Row.Separate)
    (hmem : r ∈ rows) (hr : r.accepts w = true) : rows.find? (fun q => q.accepts w) = some r := by
  induction hsep with
  | nil => cases hmem
  | @cons q rest hq _ ih =>
    rcases List.mem_cons.mp hmem with rfl | hrest
    · exact List.find?_cons_of_pos hr
    · have hne : ¬ q.accepts w = true := fun h => (hq r hrest).not_both_accept h hr
      exact (List.find?_cons_of_neg (p := (Row.accepts · w)) hne).trans (ih hrest)

theorem decodeWord_of_accepts {w : Word} {r : Row} (hmem : r ∈ opcodeTable) (hr : r.accepts w = true) :
    decodeWord w = .instr (r.build w) := by
  simp only [decodeWord, find?_accepts_of_pairwise_separate opcodeTable_pairwise_separate hmem hr]

/-- A row that reads an instruction back from its word is the row that decodes the word. -/
theorem Laws.RowAccepts.Statement.decodeWord_encode {i : Instr} (h : Laws.RowAccepts.Statement i) :
    decodeWord (encode i) = .instr i := by
  obtain ⟨r, hmem, haccepts, hbuild⟩ := h
  rw [decodeWord_of_accepts hmem haccepts, hbuild]

theorem decodeWord_of_no_row {w : Word} (h : ∀ r ∈ opcodeTable, ¬ r.accepts w = true) :
    decodeWord w = .rejected (.reservedInstruction w) := by
  simp only [decodeWord, List.find?_eq_none.mpr h]

/-- Every mask covers the opcode (R86), so that a row accepts only words of its own opcode. -/
theorem fieldOp_of_accepts {r : Row} (hmem : r ∈ opcodeTable) {w : Word} (hr : r.accepts w = true) :
    fieldOp w = fieldOp r.pattern := by
  have hmask : ∀ q ∈ opcodeTable, fieldOp q.mask = BitVec.allOnes 6 := by decide
  calc fieldOp w
      = fieldOp w &&& fieldOp r.mask := by rw [hmask r hmem, BitVec.and_allOnes]
    _ = fieldOp (w &&& r.mask) := by simp only [fieldOp, BitVec.extractLsb'_and]
    _ = fieldOp r.pattern := by rw [Row.accepts_iff.mp hr]

/-- One row has the opcode of LUI, and its mask covers the `rs` cell as well (R138). -/
theorem row_of_lui_opcode : ∀ r ∈ opcodeTable, fieldOp r.pattern = 0b001111#6 →
    r.mask = encI 63#6 31#5 0#5 0#16 ∧ r.pattern = encI 0b001111#6 0#5 0#5 0#16 := by
  decide

/-- R138: the opcode of LUI with a nonzero `rs` cell is reserved. -/
theorem decodeWord_lui_opcode {rs : RegIdx} (rt : RegIdx) (imm : BitVec 16) (hrs : rs ≠ 0) :
    decodeWord (encI 0b001111#6 rs rt imm) = .rejected (.reservedInstruction (encI 0b001111#6 rs rt imm)) := by
  refine decodeWord_of_no_row fun r hmem hr => hrs ?_
  have hop : fieldOp r.pattern = 0b001111#6 := by rw [← fieldOp_of_accepts hmem hr, fieldOp_encI]
  obtain ⟨hmask, hpattern⟩ := row_of_lui_opcode r hmem hop
  have hcells := Row.accepts_iff.mp hr
  rw [hmask, hpattern, encI_and] at hcells
  have hcell : rs &&& 31#5 = 0#5 := by simpa only [fieldRs_encI] using congrArg fieldRs hcells
  rwa [show 31#5 = BitVec.allOnes 5 from rfl, BitVec.and_allOnes] at hcell

end Sys2Proof

namespace Sys2Proof.Machine

theorem decodeFetched_of_rejected {w : Word} {why : DecodeError} (h : decodeWord w = .rejected why) :
    decodeFetched w = .fault (.reservedInstruction w) := by
  simp only [decodeFetched, h, raise]

end Sys2Proof.Machine

/-! SUPPORT. What the instructions of 40_alu_arith_logic.md do: each writes one general register and advances (R120). -/

namespace Sys2Proof.Machine

open Sys2Proof.Spec

/-! ## The frame of `retire` -/

theorem writesReg_advance_setGpr (r : RegIdx) (v : Word) (s : State) : WritesReg r v s (s.setGpr r v).advance := by
  have hreg : RegWritten r v s (s.setGpr r v).advance := by
    intro q
    rw [State.advance_gpr, State.gpr_setGpr]
    by_cases hq : q = r
    · subst hq; rfl
    · simp only [hq, false_and]
  exact ⟨hreg, by simp [HiLoKept], by simp [ReservationKept], by simp [MemoryKept], by simp [RestKept, HostKept],
    by simp [Advanced]⟩

/-- An instruction that ends by writing a register completes in every state, and does nothing else. -/
theorem exists_retire_writesReg (r : RegIdx) (v : Word) (s : State) :
    ∃ t, retire r v s = .next t ∧ WritesReg r v s t :=
  ⟨_, rfl, writesReg_advance_setGpr r v s⟩

/-- As `exists_retire_writesReg`, where only a property of the value is wanted. -/
theorem exists_retire_writesReg_of {P : Word → Prop} {v : Word} (hv : P v) (r : RegIdx) (s : State) :
    ∃ t w, retire r v s = .next t ∧ WritesReg r w s t ∧ P w :=
  ⟨_, v, rfl, writesReg_advance_setGpr r v s, hv⟩

/-! ## The meaning of each instruction -/

section Meanings

variable (rs rt rd : RegIdx) (imm : BitVec 16) (s : State)

theorem exec_add : exec (.add rs rt rd) s = retire rd (s.gpr rs + s.gpr rt) s := rfl
theorem exec_addu : exec (.addu rs rt rd) s = retire rd (s.gpr rs + s.gpr rt) s := rfl
theorem exec_addi : exec (.addi rs rt imm) s = retire rt (s.gpr rs + sext16 imm) s := rfl
theorem exec_addiu : exec (.addiu rs rt imm) s = retire rt (s.gpr rs + sext16 imm) s := rfl
theorem exec_sub : exec (.sub rs rt rd) s = retire rd (s.gpr rs - s.gpr rt) s := rfl
theorem exec_subu : exec (.subu rs rt rd) s = retire rd (s.gpr rs - s.gpr rt) s := rfl
theorem exec_and : exec (.and rs rt rd) s = retire rd (s.gpr rs &&& s.gpr rt) s := rfl
theorem exec_or : exec (.or rs rt rd) s = retire rd (s.gpr rs ||| s.gpr rt) s := rfl
theorem exec_xor : exec (.xor rs rt rd) s = retire rd (s.gpr rs ^^^ s.gpr rt) s := rfl
theorem exec_andi : exec (.andi rs rt imm) s = retire rt (s.gpr rs &&& zext16 imm) s := rfl
theorem exec_ori : exec (.ori rs rt imm) s = retire rt (s.gpr rs ||| zext16 imm) s := rfl
theorem exec_xori : exec (.xori rs rt imm) s = retire rt (s.gpr rs ^^^ zext16 imm) s := rfl
theorem exec_lui : exec (.lui rt imm) s = retire rt (upper16 imm) s := rfl
theorem exec_clz : exec (.clz rs rt rd) s = retire rd (BitVec.ofNat 32 (countLeading false (s.gpr rs) 32)) s := rfl
theorem exec_clo : exec (.clo rs rt rd) s = retire rd (BitVec.ofNat 32 (countLeading true (s.gpr rs) 32)) s := rfl

end Meanings

/-! ## Sums, differences and immediates as numbers -/

theorem ofInt_toNat (a : Word) : BitVec.ofInt 32 a.toNat = a := by
  rw [BitVec.ofInt_natCast, BitVec.ofNat_toNat, BitVec.setWidth_eq]

theorem sub_eq_ofInt (a b : Word) : a - b = BitVec.ofInt 32 (a.toNat - b.toNat) := by
  rw [Int.sub_eq_add_neg, BitVec.ofInt_add, BitVec.ofInt_neg, ofInt_toNat, ofInt_toNat, BitVec.sub_eq_add_neg]

/-- R124: the immediate is sign-extended. -/
theorem add_sext16_eq_ofInt (a : Word) (imm : BitVec 16) : a + sext16 imm = BitVec.ofInt 32 (a.toNat + imm.toInt) := by
  rw [BitVec.ofInt_add, ofInt_toNat]; rfl

theorem getLsbD_zext16 (imm : BitVec 16) (i : Nat) : (zext16 imm).getLsbD i = (decide (i < 16) && imm.getLsbD i) := by
  rw [zext16, BitVec.getLsbD_setWidth]
  by_cases hi : i < 16
  · rw [decide_eq_true hi, decide_eq_true (by omega)]
  · rw [BitVec.getLsbD_of_ge imm i (by omega), Bool.and_false, Bool.and_false]

/-- R138: the low 16 bits are 0, so that the operand of LUI is a multiple of 2^16. -/
theorem upper16_eq_ofNat (imm : BitVec 16) : upper16 imm = BitVec.ofNat 32 (imm.toNat * 2 ^ 16) := by
  apply BitVec.eq_of_toNat_eq
  have hlt : imm.toNat * 2 ^ 16 < 2 ^ 32 := by
    have himm := imm.isLt
    omega
  have happend : (upper16 imm).toNat = imm.toNat <<< 16 ||| 0 := BitVec.toNat_append imm 0#16
  rw [happend, Nat.or_zero, Nat.shiftLeft_eq, BitVec.toNat_ofNat, Nat.mod_eq_of_lt hlt]

/-! ## Counting equal bits from the top -/

theorem countLeading_succ_of_eq {bit : Bool} {v : Word} {n : Nat} (h : v.getLsbD n = bit) :
    countLeading bit v (n + 1) = countLeading bit v n + 1 := if_pos h

theorem countLeading_succ_of_ne {bit : Bool} {v : Word} {n : Nat} (h : v.getLsbD n ≠ bit) :
    countLeading bit v (n + 1) = 0 := if_neg h

theorem countLeading_le (bit : Bool) (v : Word) (n : Nat) : countLeading bit v n ≤ n := by
  induction n with
  | zero => exact Nat.le_refl 0
  | succ n ih =>
    by_cases h : v.getLsbD n = bit
    · rw [countLeading_succ_of_eq h]; omega
    · rw [countLeading_succ_of_ne h]; omega

/-- The bits counted are equal to `bit`. -/
theorem getLsbD_of_lt_countLeading {bit : Bool} {v : Word} {n j : Nat} (hj : j < countLeading bit v (n + 1)) :
    v.getLsbD (n - j) = bit := by
  induction n generalizing j with
  | zero =>
    by_cases h : v.getLsbD 0 = bit
    · rwa [Nat.zero_sub]
    · rw [countLeading_succ_of_ne h] at hj; omega
  | succ n ih =>
    by_cases h : v.getLsbD (n + 1) = bit
    · rw [countLeading_succ_of_eq h] at hj
      cases j with
      | zero => exact h
      | succ j => rw [Nat.add_sub_add_right]; exact ih (by omega)
    · rw [countLeading_succ_of_ne h] at hj; omega

/-- The bit after those counted is not `bit`. -/
theorem getLsbD_countLeading {bit : Bool} {v : Word} {n : Nat} (hlt : countLeading bit v (n + 1) < n + 1) :
    v.getLsbD (n - countLeading bit v (n + 1)) = !bit := by
  induction n with
  | zero =>
    by_cases h : v.getLsbD 0 = bit
    · rw [countLeading_succ_of_eq h] at hlt; omega
    · rw [Nat.zero_sub]; exact Bool.eq_not.mpr h
  | succ n ih =>
    by_cases h : v.getLsbD (n + 1) = bit
    · rw [countLeading_succ_of_eq h] at hlt ⊢
      rw [Nat.add_sub_add_right]; exact ih (by omega)
    · rw [countLeading_succ_of_ne h]; exact Bool.eq_not.mpr h

/-- The count is complete exactly if every bit below `n` is equal to `bit`. -/
theorem countLeading_eq_iff {bit : Bool} {v : Word} {n : Nat} :
    countLeading bit v n = n ↔ ∀ i < n, v.getLsbD i = bit := by
  induction n with
  | zero => simp [countLeading]
  | succ n ih =>
    rw [Nat.forall_lt_succ_right, ← ih]
    by_cases h : v.getLsbD n = bit
    · simp [countLeading_succ_of_eq h, h]
    · simp [countLeading_succ_of_ne h, h]

theorem countLeading_false_eq_32 (v : Word) : countLeading false v 32 = 32 ↔ v = 0 := by
  rw [countLeading_eq_iff]
  exact ⟨fun h => BitVec.eq_of_getLsbD_eq fun i hi => by simp [h i hi], fun h i _ => by simp [h]⟩

/-- The 0 bits of a complement stand where the 1 bits of the value stand. -/
theorem countLeading_not (v : Word) {n : Nat} (hn : n ≤ 32) : countLeading false (~~~v) n = countLeading true v n := by
  induction n with
  | zero => rfl
  | succ n ih =>
    have hbit : (~~~v).getLsbD n = !v.getLsbD n := by simp; omega
    cases h : v.getLsbD n with
    | true =>
      rw [h, Bool.not_true] at hbit
      rw [countLeading_succ_of_eq h, countLeading_succ_of_eq hbit, ih (by omega)]
    | false =>
      rw [h, Bool.not_false] at hbit
      have hcomplement : (~~~v).getLsbD n ≠ false := by rw [hbit]; decide
      have hvalue : v.getLsbD n ≠ true := by rw [h]; decide
      rw [countLeading_succ_of_ne hcomplement, countLeading_succ_of_ne hvalue]

theorem countLeading_true_eq_32 (v : Word) : countLeading true v 32 = 32 ↔ v = 0xFFFFFFFF := by
  rw [← countLeading_not v (Nat.le_refl 32), countLeading_false_eq_32]
  exact ⟨fun h => by rw [← BitVec.not_not (b := v), h]; rfl, fun h => by rw [h]; rfl⟩

/-- A retired count, for the value `full` that has all 32 bits equal. -/
theorem exists_retire_countLeading {bit : Bool} {v full : Word} (hfull : countLeading bit v 32 = 32 ↔ v = full) (r : RegIdx)
    (s : State) :
    ∃ t n, n ≤ 32 ∧ retire r (BitVec.ofNat 32 (countLeading bit v 32)) s = .next t ∧ WritesReg r (BitVec.ofNat 32 n) s t
      ∧ (∀ j < n, v.getLsbD (31 - j) = bit) ∧ (n < 32 → v.getLsbD (31 - n) = !bit) ∧ (n = 32 ↔ v = full) := by
  obtain ⟨t, hnext, hwrites⟩ := exists_retire_writesReg r (BitVec.ofNat 32 (countLeading bit v 32)) s
  exact ⟨t, _, countLeading_le bit v 32, hnext, hwrites, fun _ hj => getLsbD_of_lt_countLeading hj, getLsbD_countLeading, hfull⟩

end Sys2Proof.Machine

/-! CERTIFICATE. The statements of the family 40_alu_arith_logic.md. -/

namespace Sys2Proof.Proofs

open Sys2Proof.Machine Sys2Proof.Spec Sys2Proof.Laws

/-- Settles O1: each meaning is `retire` of the sum or difference, which is the number named, and the form
without the U has the same meaning (R120). -/
theorem unsignedAddAndSubtractWrap : Obligations.UnsignedAddAndSubtractWrap := by
  refine ⟨fun rs rt rd => ⟨?_, ?_⟩, fun rs rt imm => ?_, fun rs rt rd s => ⟨?_, ?_⟩, fun rs rt rd s => ⟨?_, ?_⟩,
    fun rs rt imm s => ⟨?_, ?_⟩⟩
  · exact (RowAccepts.addu rs rt rd).decodeWord_encode
  · exact (RowAccepts.subu rs rt rd).decodeWord_encode
  · exact (RowAccepts.addiu rs rt imm).decodeWord_encode
  · rw [exec_addu, ← BitVec.add_def]; exact exists_retire_writesReg rd _ s
  · rw [exec_addu, exec_add]
  · rw [exec_subu, ← sub_eq_ofInt]; exact exists_retire_writesReg rd _ s
  · rw [exec_subu, exec_sub]
  · rw [exec_addiu, ← add_sext16_eq_ofInt]; exact exists_retire_writesReg rt _ s
  · rw [exec_addiu, exec_addi]

/-- Settles O3, operation by operation on bit `i` of the operands. -/
theorem logicAndLuiActBitByBit : Obligations.LogicAndLuiActBitByBit := by
  refine ⟨fun rs rt rd => ⟨?_, ?_, ?_⟩, fun rs rt imm => ⟨?_, ?_, ?_, ?_⟩, fun rs rt imm hrs => ⟨?_, ?_⟩,
    fun rs rt rd s => ⟨?_, ?_, ?_⟩, fun rs rt imm s => ⟨?_, ?_, ?_, ?_⟩⟩
  · exact (RowAccepts.and rs rt rd).decodeWord_encode
  · exact (RowAccepts.or rs rt rd).decodeWord_encode
  · exact (RowAccepts.xor rs rt rd).decodeWord_encode
  · exact (RowAccepts.andi rs rt imm).decodeWord_encode
  · exact (RowAccepts.ori rs rt imm).decodeWord_encode
  · exact (RowAccepts.xori rs rt imm).decodeWord_encode
  · exact (RowAccepts.lui rt imm).decodeWord_encode
  · exact decodeWord_lui_opcode rt imm hrs
  · exact decodeFetched_of_rejected (decodeWord_lui_opcode rt imm hrs)
  · rw [exec_and]; exact exists_retire_writesReg_of (fun i _ => BitVec.getLsbD_and) rd s
  · rw [exec_or]; exact exists_retire_writesReg_of (fun i _ => BitVec.getLsbD_or) rd s
  · rw [exec_xor]; exact exists_retire_writesReg_of (fun i _ => BitVec.getLsbD_xor) rd s
  · rw [exec_andi]; exact exists_retire_writesReg_of (fun i _ => by rw [BitVec.getLsbD_and, getLsbD_zext16]) rt s
  · rw [exec_ori]; exact exists_retire_writesReg_of (fun i _ => by rw [BitVec.getLsbD_or, getLsbD_zext16]) rt s
  · rw [exec_xori]; exact exists_retire_writesReg_of (fun i _ => by rw [BitVec.getLsbD_xor, getLsbD_zext16]) rt s
  · rw [exec_lui, upper16_eq_ofNat]; exact exists_retire_writesReg rt _ s

/-- Settles O6, from the induction on the bits still to look at (`countLeading`), CLO and CLZ tied by the complement. -/
theorem countLeadingBits : Obligations.CountLeadingBits := by
  refine ⟨fun rs rt rd => ⟨?_, ?_⟩, fun rs rt rd s => ?_, fun rs rt rd s => ?_, ?_⟩
  · exact (RowAccepts.clz rs rt rd).decodeWord_encode
  · exact (RowAccepts.clo rs rt rd).decodeWord_encode
  · rw [exec_clz]; exact exists_retire_countLeading (countLeading_false_eq_32 _) rd s
  · rw [exec_clo]; exact exists_retire_countLeading (countLeading_true_eq_32 _) rd s
  · intro rs rt rd rs' rt' rd' s s' t t' hnot hrd hrd' hclo hclz
    rw [exec_clo, retire_eq_next] at hclo
    rw [exec_clz, retire_eq_next] at hclz
    rw [hclo, hclz, State.advance_gpr, State.advance_gpr, State.gpr_setGpr_same s hrd, State.gpr_setGpr_same s' hrd', hnot,
      countLeading_not _ (Nat.le_refl 32)]

end Sys2Proof.Proofs

/-! SUPPORT. What the instructions of 41_alu_shift.md do: each writes one general register and advances (R150), and the shift
laws (R159). -/

namespace Sys2Proof.Machine

/-! ## The meaning of each instruction -/

section ShiftMeanings

variable (rs rt rd : RegIdx) (sa : BitVec 5) (s : State)

theorem exec_sll : exec (.sll rt rd sa) s = retire rd (s.gpr rt <<< sa.toNat) s := rfl
theorem exec_sllv : exec (.sllv rs rt rd) s = retire rd (s.gpr rt <<< (shiftAmount (s.gpr rs)).toNat) s := rfl
theorem exec_rotr : exec (.rotr rt rd sa) s = retire rd (rotr (s.gpr rt) sa.toNat) s := rfl
theorem exec_rotrv : exec (.rotrv rs rt rd) s = retire rd (rotr (s.gpr rt) (shiftAmount (s.gpr rs)).toNat) s := rfl

end ShiftMeanings

/-! ## Amounts, shifts and rotates -/

/-- R94: only the low five bits of a register amount count. -/
theorem toNat_shiftAmount (v : Word) : (shiftAmount v).toNat = v.toNat % 32 := by
  rw [shiftAmount, BitVec.extractLsb'_toNat, Nat.shiftRight_zero]

/-- R159: a left shift is a product modulo 2^32. -/
theorem shiftLeft_eq_ofNat (v : Word) (n : Nat) : v <<< n = BitVec.ofNat 32 (v.toNat * 2 ^ n) := by
  apply BitVec.eq_of_toNat_eq
  rw [BitVec.toNat_shiftLeft, Nat.shiftLeft_eq, BitVec.toNat_ofNat]

/-- R159: where `i + n` stays below 32, bit `i` comes from the right shift; above, it comes around by the left shift. -/
theorem getLsbD_rotr (v : Word) {n i : Nat} (hn : n < 32) (hi : i < 32) :
    (rotr v n).getLsbD i = v.getLsbD ((i + n) % 32) := by
  by_cases hzero : n = 0
  · subst hzero
    rw [rotr, if_pos rfl, Nat.add_zero, Nat.mod_eq_of_lt hi]
  rw [rotr, if_neg hzero, BitVec.getLsbD_or, BitVec.getLsbD_ushiftRight, BitVec.getLsbD_shiftLeft]
  by_cases hsum : i + n < 32
  · have hleft : i < 32 - n := by omega
    rw [Nat.mod_eq_of_lt hsum, Nat.add_comm n i]
    simp [hleft]
  · have hleft : ¬ i < 32 - n := by omega
    have hsource : (i + n) % 32 = i - (32 - n) := by omega
    rw [BitVec.getLsbD_of_ge v (n + i) (by omega), hsource]
    simp [hi, hleft]

end Sys2Proof.Machine

/-! CERTIFICATE. The statement of the family 41_alu_shift.md. -/

namespace Sys2Proof.Proofs

open Sys2Proof.Machine Sys2Proof.Spec Sys2Proof.Laws

/-- Settles O7: each meaning is `retire` of the shifted or rotated value, the shift law R159 says which value that is, and the
register amounts are remainders modulo 32. -/
theorem shiftLeftAndRotate : Obligations.ShiftLeftAndRotate := by
  refine ⟨fun rt rd sa => ⟨?_, ?_⟩, fun rs rt rd => ⟨?_, ?_⟩, fun rt rd sa s => ⟨?_, ?_⟩, fun rs rt rd s => ⟨?_, ?_⟩⟩
  · exact (RowAccepts.sll rt rd sa).decodeWord_encode
  · exact (RowAccepts.rotr rt rd sa).decodeWord_encode
  · exact (RowAccepts.sllv rs rt rd).decodeWord_encode
  · exact (RowAccepts.rotrv rs rt rd).decodeWord_encode
  · rw [exec_sll, shiftLeft_eq_ofNat]; exact exists_retire_writesReg rd _ s
  · rw [exec_rotr]; exact exists_retire_writesReg_of (fun i hi => getLsbD_rotr _ sa.isLt hi) rd s
  · rw [exec_sllv, shiftLeft_eq_ofNat, toNat_shiftAmount]; exact exists_retire_writesReg rd _ s
  · have hbits : ∀ i < 32, (rotr (s.gpr rt) (shiftAmount (s.gpr rs)).toNat).getLsbD i
        = (s.gpr rt).getLsbD ((i + (s.gpr rs).toNat) % 32) := by
      intro i hi
      rw [getLsbD_rotr _ (shiftAmount (s.gpr rs)).isLt hi, toNat_shiftAmount, Nat.add_mod_mod]
    rw [exec_rotrv]; exact exists_retire_writesReg_of hbits rd s

end Sys2Proof.Proofs

/-! SUPPORT. What the moves of 42_alu_muldiv.md do: MFHI and MFLO write a general register, MTHI and MTLO one of `hi` and `lo`
(R171 to R174), and the frame of a write to `hi` and `lo`. -/

namespace Sys2Proof.Machine

open Sys2Proof.Spec

/-! ## The frame of a write to `hi` and `lo` -/

theorem State.setHi_self (s : State) : s.setHi s.hi = s := rfl
theorem State.setLo_self (s : State) : s.setLo s.lo = s := rfl

theorem writesHiLo_advance_setHi_setLo (h l : Word) (s : State) : WritesHiLo h l s ((s.setHi h).setLo l).advance :=
  ⟨by simp, by simp, by simp [RegsKept], by simp [ReservationKept], by simp [MemoryKept], by simp [HostKept],
    by simp [Advanced]⟩

theorem writesHiLo_advance_setHi (h : Word) (s : State) : WritesHiLo h s.lo s (s.setHi h).advance := by
  have hself : (s.setHi h).setLo s.lo = s.setHi h := State.setLo_self (s.setHi h)
  simpa only [hself] using writesHiLo_advance_setHi_setLo h s.lo s

theorem writesHiLo_advance_setLo (l : Word) (s : State) : WritesHiLo s.hi l s (s.setLo l).advance := by
  simpa only [State.setHi_self] using writesHiLo_advance_setHi_setLo s.hi l s

/-! ## The meaning of each move -/

section MoveMeanings

variable (r : RegIdx) (s : State)

theorem exec_mfhi : exec (.mfhi r) s = retire r s.hi s := rfl
theorem exec_mflo : exec (.mflo r) s = retire r s.lo s := rfl
theorem exec_mthi : exec (.mthi r) s = .next (s.setHi (s.gpr r)).advance := rfl
theorem exec_mtlo : exec (.mtlo r) s = .next (s.setLo (s.gpr r)).advance := rfl

end MoveMeanings

end Sys2Proof.Machine

/-! CERTIFICATE. The statement of the family 42_alu_muldiv.md. -/

namespace Sys2Proof.Proofs

open Sys2Proof.Machine Sys2Proof.Spec Sys2Proof.Laws

/-- Settles O11: MFHI and MFLO are `retire` of `hi` or `lo`; MTHI and MTLO write one of the two and, by the frame of that write,
keep the other. -/
theorem hiLoMovesCopy : Obligations.HiLoMovesCopy := by
  refine ⟨fun r => ⟨?_, ?_, ?_, ?_⟩, fun r s => ⟨?_, ?_, ?_, ?_⟩⟩
  · exact (RowAccepts.mfhi r).decodeWord_encode
  · exact (RowAccepts.mflo r).decodeWord_encode
  · exact (RowAccepts.mthi r).decodeWord_encode
  · exact (RowAccepts.mtlo r).decodeWord_encode
  · rw [exec_mfhi]; exact exists_retire_writesReg r s.hi s
  · rw [exec_mflo]; exact exists_retire_writesReg r s.lo s
  · exact ⟨_, exec_mthi r s, writesHiLo_advance_setHi (s.gpr r) s, by simp⟩
  · exact ⟨_, exec_mtlo r s, writesHiLo_advance_setLo (s.gpr r) s, by simp⟩

end Sys2Proof.Proofs

/-! SUPPORT. What the byte accesses of 43_load_store.md do: the faults a load and a store can end with (R56, R57), the value of a
byte read, and the frame of a store. -/

namespace Sys2Proof.Machine

open Sys2Proof.Spec

/-! ## The faults of an access -/

theorem andThen_eq_fault {α β : Type} {x : Res α} {k : α → Res β} {f : Fault} :
    andThen x k = .fault f ↔ x = .fault f ∨ ∃ a, x = .next a ∧ k a = .fault f := by
  cases x <;> simp

theorem alignCheck_eq_fault {kind : AccessKind} {addr : Word} {n : Nat} {f : Fault} :
    alignCheck kind addr n = .fault f ↔ addr.toNat % n ≠ 0 ∧ f = .addressError kind addr := by
  unfold alignCheck
  split <;> simp [*, raise, eq_comm (a := f)]

theorem accessCheck_eq_fault {s : State} {kind : AccessKind} {addr start : Word} {n : Nat} {f : Fault} :
    accessCheck s kind addr start n = .fault f ↔ s.validRange kind start n = false ∧ f = .accessFault kind addr := by
  unfold accessCheck
  split <;> simp [*, raise, eq_comm (a := f)]

/-- A byte without a value is refused, never a fault (log entry 5). -/
theorem readBytes_ne_fault (m : Memory) (kind : AccessKind) (start : Word) (n : Nat) (f : Fault) :
    readBytes m kind start n ≠ .fault f := by
  induction n generalizing start with
  | zero => exact nofun
  | succ n ih =>
    rw [readBytes]
    cases Memory.read m start.toNat with
    | none => exact nofun
    | some b => simp [andThen_eq_fault, ih]

/-- R56: reading the lanes faults exactly if a byte is not valid, and then by `AccessFault`. -/
theorem loadLanes_eq_fault {s : State} {kind : AccessKind} {addr start : Word} {n : Nat} {f : Fault} :
    loadLanes s kind addr start n = .fault f ↔ s.validRange kind start n = false ∧ f = .accessFault kind addr := by
  simp [loadLanes, andThen_eq_fault, accessCheck_eq_fault, readBytes_ne_fault]

/-- R56: the two faults of a load, in their order. -/
theorem memRead_eq_fault {s : State} {kind : AccessKind} {addr : Word} {n : Nat} {f : Fault} :
    memRead s kind addr n = .fault f ↔
      (addr.toNat % n ≠ 0 ∧ f = .addressError kind addr)
        ∨ (addr.toNat % n = 0 ∧ s.validRange kind addr n = false ∧ f = .accessFault kind addr) := by
  simp [memRead, andThen_eq_fault, alignCheck_eq_fault, alignCheck_eq_next, loadLanes_eq_fault]

theorem storeLanes_eq_fault {s : State} {addr start : Word} {lanes : List Byte} {f : Fault} :
    storeLanes s addr start lanes = .fault f ↔
      s.validRange .store start lanes.length = false ∧ f = .accessFault .store addr := by
  simp [storeLanes, andThen_eq_fault, accessCheck_eq_fault]

/-- R57: the two faults of a store of at most a word, in their order. -/
theorem memWrite_eq_fault {s : State} {addr : Word} {n : Nat} (hn : n ≤ 4) {v : Word} {f : Fault} :
    memWrite s addr n v = .fault f ↔
      (addr.toNat % n ≠ 0 ∧ f = .addressError .store addr)
        ∨ (addr.toNat % n = 0 ∧ s.validRange .store addr n = false ∧ f = .accessFault .store addr) := by
  have hlength : ((toLanes v).take n).length = n := by rw [List.length_take, toLanes_length, Nat.min_eq_left hn]
  simp [memWrite, andThen_eq_fault, alignCheck_eq_fault, alignCheck_eq_next, storeLanes_eq_fault, hlength]

theorem loadWith_eq_fault {g : Word → Word} {n : Nat} {base rt : RegIdx} {offset : BitVec 16} {s : State} {f : Fault} :
    loadWith g n base rt offset s = .fault f ↔ memRead s .load (effAddr s base offset) n = .fault f := by
  simp [loadWith, andThen_eq_fault, retire]

theorem storeLow_eq_fault {n : Nat} {base rt : RegIdx} {offset : BitVec 16} {s : State} {f : Fault} :
    storeLow n base rt offset s = .fault f ↔ memWrite s (effAddr s base offset) n (s.gpr rt) = .fault f := by
  simp [storeLow, andThen_eq_fault]

/-! ## The frame of a store -/

theorem touchesReservation_eq_false {s : State} {start : Word} {n : Nat} :
    s.touchesReservation start n = false ↔
      ∀ i < n, alignedWord (start + BitVec.ofNat 32 i) ≠ alignedWord s.llAddr := by
  simp [State.touchesReservation]

/-- R57, R34: what `storeBytes` does to the memory and the reservation. -/
theorem bytesStored_storeBytes (s : State) (start : Word) {bs : List Byte} {f : Nat → Byte} (hlen : bs.length ≤ 2 ^ 32)
    (hf : ∀ (i : Nat) (hi : i < bs.length), bs[i] = f i) :
    BytesStored start bs.length f s (s.storeBytes start bs) := by
  refine ⟨fun i hi => ?_, read_storeBytes_other s start bs, State.storeBytes_llAddr s start bs, ?_⟩
  · rw [State.storeBytes_mem, Memory.read_writeBytes_at bs s.mem start hlen i hi, hf i hi]
  · rw [State.storeBytes_llValid, Bool.and_eq_true, Bool.not_eq_true', touchesReservation_eq_false]

theorem stores_advance_storeBytes (s : State) (start : Word) {bs : List Byte} {f : Nat → Byte} (hlen : bs.length ≤ 2 ^ 32)
    (hf : ∀ (i : Nat) (hi : i < bs.length), bs[i] = f i) :
    Stores start bs.length f s (s.storeBytes start bs).advance :=
  ⟨bytesStored_storeBytes s start hlen hf, by simp [RegsKept], by simp [HiLoKept], by simp [RestKept, HostKept],
    by simp [Advanced]⟩

/-! ## Accesses of one byte -/

theorem validRange_one (s : State) (kind : AccessKind) (addr : Word) :
    s.validRange kind addr 1 = Params.valid s.par kind addr := by
  simp [State.validRange]

theorem arrange_singleton (order : ByteOrder) (b : Byte) : arrange order [b] = [b] := by
  cases order <;> rfl

theorem ofLanes_singleton (b : Byte) : ofLanes [b] = b.setWidth 32 := by
  simp [ofLanes]

theorem sextByte_setWidth (b : Byte) : sextByte (b.setWidth 32) = BitVec.ofInt 32 b.toInt := by
  have hlow : (b.setWidth 32).extractLsb' 0 8 = b := by
    rw [← BitVec.setWidth_eq_extractLsb' (by omega), BitVec.setWidth_setWidth_of_le b (by omega), BitVec.setWidth_eq]
  rw [sextByte, hlow]; rfl

theorem readBytes_one {m : Memory} {addr : Word} {b : Byte} (kind : AccessKind)
    (hread : Memory.read m addr.toNat = some b) : readBytes m kind addr 1 = .next [b] := by
  simp [readBytes, hread]

/-- A byte is always aligned, and its value does not depend on the byte order. -/
theorem memRead_one {s : State} {kind : AccessKind} {addr : Word} {b : Byte} (hvalid : Params.valid s.par kind addr = true)
    (hread : Memory.read s.mem addr.toNat = some b) : memRead s kind addr 1 = .next (b.setWidth 32) := by
  rw [memRead_eq_next]
  refine ⟨Nat.mod_one _, [b], ?_, ofLanes_singleton b⟩
  rw [loadLanes_eq_next, validRange_one, arrange_singleton]
  exact ⟨hvalid, readBytes_one kind hread⟩

/-- A byte is always aligned, so that the one fault left is `AccessFault`. -/
theorem memRead_one_eq_fault {s : State} {kind : AccessKind} {addr : Word} {f : Fault} :
    memRead s kind addr 1 = .fault f ↔ Params.valid s.par kind addr = false ∧ f = .accessFault kind addr := by
  rw [memRead_eq_fault, validRange_one]
  simp [Nat.mod_one]

theorem memWrite_one {s : State} {addr v : Word} (hvalid : Params.valid s.par .store addr = true) :
    memWrite s addr 1 v = .next (s.storeBytes addr [v.extractLsb' 0 8]) := by
  rw [memWrite_eq_next]
  refine ⟨Nat.mod_one _, ?_⟩
  rw [show (toLanes v).take 1 = [v.extractLsb' 0 8] from rfl, storeLanes_eq_next, List.length_singleton, validRange_one,
    arrange_singleton]
  exact ⟨hvalid, rfl⟩

theorem memWrite_one_eq_fault {s : State} {addr v : Word} {f : Fault} :
    memWrite s addr 1 v = .fault f ↔ Params.valid s.par .store addr = false ∧ f = .accessFault .store addr := by
  rw [memWrite_eq_fault (by omega), validRange_one]
  simp [Nat.mod_one]

/-! ## The meaning of LB, LBU and SB -/

section ByteMeanings

variable (base rt : RegIdx) (offset : BitVec 16) (s : State)

theorem exec_lb : exec (.lb base rt offset) s = loadWith sextByte 1 base rt offset s := rfl
theorem exec_lbu : exec (.lbu base rt offset) s = loadWith id 1 base rt offset s := rfl
theorem exec_sb : exec (.sb base rt offset) s = storeLow 1 base rt offset s := rfl

end ByteMeanings

section ByteAccess

variable {base rt : RegIdx} {offset : BitVec 16} {s : State}

/-- A load of a valid byte with a value writes what `g` makes of it to the register, and does nothing else. -/
theorem exists_loadWith_one_writesReg {g : Word → Word} {b : Byte}
    (hvalid : Params.valid s.par .load (effAddr s base offset) = true)
    (hread : Memory.read s.mem (effAddr s base offset).toNat = some b) :
    ∃ t, loadWith g 1 base rt offset s = .next t ∧ WritesReg rt (g (b.setWidth 32)) s t := by
  rw [loadWith, memRead_one hvalid hread, andThen_next]
  exact exists_retire_writesReg rt _ s

theorem loadWith_one_eq_fault {g : Word → Word} {f : Fault} :
    loadWith g 1 base rt offset s = .fault f ↔
      Params.valid s.par .load (effAddr s base offset) = false ∧ f = .accessFault .load (effAddr s base offset) := by
  rw [loadWith_eq_fault, memRead_one_eq_fault]

theorem loadWith_one_ne_addressError {g : Word → Word} {k : AccessKind} {a : Word} :
    loadWith g 1 base rt offset s ≠ .fault (.addressError k a) := by
  rw [Ne, loadWith_one_eq_fault]
  exact fun ⟨_, hfault⟩ => nomatch hfault

theorem exists_storeLow_one_stores (hvalid : Params.valid s.par .store (effAddr s base offset) = true) :
    ∃ t, storeLow 1 base rt offset s = .next t
      ∧ Stores (effAddr s base offset) 1 (fun _ => (s.gpr rt).extractLsb' 0 8) s t := by
  rw [storeLow, memWrite_one hvalid, andThen_next]
  exact ⟨_, rfl, stores_advance_storeBytes s _ (bs := [(s.gpr rt).extractLsb' 0 8]) (by simp) (by simp)⟩

theorem storeLow_one_eq_fault {f : Fault} :
    storeLow 1 base rt offset s = .fault f ↔
      Params.valid s.par .store (effAddr s base offset) = false ∧ f = .accessFault .store (effAddr s base offset) := by
  rw [storeLow_eq_fault, memWrite_one_eq_fault]

end ByteAccess

end Sys2Proof.Machine

/-! CERTIFICATE. The statements of the family 43_load_store.md. -/

namespace Sys2Proof.Proofs

open Sys2Proof.Machine Sys2Proof.Spec Sys2Proof.Laws

/-- Settles O15: both are a load of one byte, which is always aligned, so that it can only complete, be refused for a byte without
a value, or end with `AccessFault`; LB passes the byte through the sign extension. -/
theorem loadByteExtends : Obligations.LoadByteExtends := by
  refine ⟨fun base rt offset => ⟨?_, ?_⟩, fun base rt offset s b hvalid hread => ⟨?_, ?_⟩,
    fun base rt offset s hinvalid => ⟨?_, ?_⟩, fun base rt offset s k a => ⟨?_, ?_⟩⟩
  · exact (RowAccepts.lb base rt offset).decodeWord_encode
  · exact (RowAccepts.lbu base rt offset).decodeWord_encode
  · rw [exec_lb, ← sextByte_setWidth]; exact exists_loadWith_one_writesReg hvalid hread
  · rw [exec_lbu, BitVec.ofNat_toNat]; exact exists_loadWith_one_writesReg hvalid hread
  · exact loadWith_one_eq_fault.mpr ⟨hinvalid, rfl⟩
  · exact loadWith_one_eq_fault.mpr ⟨hinvalid, rfl⟩
  · exact loadWith_one_ne_addressError
  · exact loadWith_one_ne_addressError

/-- Settles O19: SB is a store of one byte, which is always aligned; it either stores that byte, with the frame of `storeBytes`, or
ends with `AccessFault`. -/
theorem storeByteStoresLowByte : Obligations.StoreByteStoresLowByte := by
  refine ⟨fun base rt offset => ?_, fun base rt offset s hvalid => ?_, fun base rt offset s hinvalid => ?_,
    fun base rt offset s k a hfault => ?_⟩
  · exact (RowAccepts.sb base rt offset).decodeWord_encode
  · have hlow : BitVec.ofNat 8 (s.gpr rt).toNat = (s.gpr rt).extractLsb' 0 8 := by
      rw [BitVec.ofNat_toNat, BitVec.setWidth_eq_extractLsb' (by omega)]
    rw [exec_sb, hlow]; exact exists_storeLow_one_stores hvalid
  · exact storeLow_one_eq_fault.mpr ⟨hinvalid, rfl⟩
  · obtain ⟨_, heq⟩ := storeLow_one_eq_fault.mp hfault
    exact nomatch heq

end Sys2Proof.Proofs

/-! SUPPORT. What the conditional moves and the sign extensions of 47_misc.md do: each either writes one general register or only
advances (R271, R272, R274, R275). -/

namespace Sys2Proof.Machine

open Sys2Proof.Spec

/-! ## The frame of `advance` -/

theorem onlyAdvances_advance (s : State) : OnlyAdvances s s.advance :=
  ⟨by simp [RegsKept], by simp [HiLoKept], by simp [ReservationKept], by simp [MemoryKept], by simp [RestKept, HostKept],
    by simp [Advanced]⟩

/-! ## The meaning of each instruction -/

section ConditionalMoveMeanings

variable {rt : RegIdx} {s : State} (rs rd : RegIdx)

theorem exec_movn_of_ne_zero (h : s.gpr rt ≠ 0) : exec (.movn rs rt rd) s = retire rd (s.gpr rs) s := if_pos h
theorem exec_movn_of_eq_zero (h : s.gpr rt = 0) : exec (.movn rs rt rd) s = .next s.advance := if_neg (not_not_intro h)
theorem exec_movz_of_eq_zero (h : s.gpr rt = 0) : exec (.movz rs rt rd) s = retire rd (s.gpr rs) s := if_pos h
theorem exec_movz_of_ne_zero (h : s.gpr rt ≠ 0) : exec (.movz rs rt rd) s = .next s.advance := if_neg h

end ConditionalMoveMeanings

section SignExtensionMeanings

variable (rt rd : RegIdx) (s : State)

theorem exec_seb : exec (.seb rt rd) s = retire rd (sextByte (s.gpr rt)) s := rfl
theorem exec_seh : exec (.seh rt rd) s = retire rd (sextHalf (s.gpr rt)) s := rfl

end SignExtensionMeanings

/-! ## Sign extension as a signed number -/

theorem sextByte_eq_ofInt (v : Word) : sextByte v = BitVec.ofInt 32 (v.extractLsb' 0 8).toInt := rfl
theorem sextHalf_eq_ofInt (v : Word) : sextHalf v = BitVec.ofInt 32 (v.extractLsb' 0 16).toInt := rfl

end Sys2Proof.Machine

/-! CERTIFICATE. The statements of the family 47_misc.md. -/

namespace Sys2Proof.Proofs

open Sys2Proof.Machine Sys2Proof.Spec Sys2Proof.Laws

/-- Settles O36: by the test on `x[rt]`, each conditional move is `retire` of `x[rs]` or `advance` alone, and each of the two has
its own frame. -/
theorem conditionalMoves : Obligations.ConditionalMoves := by
  refine ⟨fun rs rt rd => ⟨?_, ?_⟩, fun rs rt rd s => ?_⟩
  · exact (RowAccepts.movn rs rt rd).decodeWord_encode
  · exact (RowAccepts.movz rs rt rd).decodeWord_encode
  · by_cases hzero : s.gpr rt = 0
    · simp only [if_pos hzero]
      exact ⟨⟨_, exec_movn_of_eq_zero rs rd hzero, onlyAdvances_advance s⟩,
        _, exec_movz_of_eq_zero rs rd hzero, writesReg_advance_setGpr rd (s.gpr rs) s⟩
    · simp only [if_neg hzero]
      exact ⟨⟨_, exec_movn_of_ne_zero rs rd hzero, writesReg_advance_setGpr rd (s.gpr rs) s⟩,
        _, exec_movz_of_ne_zero rs rd hzero, onlyAdvances_advance s⟩

/-- Settles O37: both are `retire` of the sign-extended low part of `x[rt]`, which is that part as a signed number. -/
theorem signExtendByteAndHalf : Obligations.SignExtendByteAndHalf := by
  refine ⟨fun rt rd => ⟨?_, ?_⟩, fun rt rd s => ⟨?_, ?_⟩⟩
  · exact (RowAccepts.seb rt rd).decodeWord_encode
  · exact (RowAccepts.seh rt rd).decodeWord_encode
  · rw [exec_seb, sextByte_eq_ofInt]; exact exists_retire_writesReg rd _ s
  · rw [exec_seh, sextHalf_eq_ofInt]; exact exists_retire_writesReg rd _ s

end Sys2Proof.Proofs

/-! SUPPORT. Words as bytes (43_load_store.md R195, 20_memory.md R53): a word is known by its four bytes. -/

namespace Sys2Proof.Machine

open Sys2Proof.Spec

theorem getLsbD_byteOf (v : Word) (k : Nat) {i : Nat} (hi : i < 8) : (byteOf v k).getLsbD i = v.getLsbD (8 * k + i) := by
  simp [byteOf, hi]

/-- Two words with the same four bytes are equal. -/
theorem word_ext {v w : Word} (h : ∀ k < 4, byteOf v k = byteOf w k) : v = w := by
  apply BitVec.eq_of_getLsbD_eq
  intro i hi
  have hbyte := congrArg (·.getLsbD (i % 8)) (h (i / 8) (by omega))
  simpa only [getLsbD_byteOf _ _ (Nat.mod_lt i (by omega : 0 < 8)), Nat.div_add_mod] using hbyte

theorem getElem_toLanes (v : Word) {k : Nat} (hk : k < (toLanes v).length) : (toLanes v)[k] = byteOf v k := by
  match k, hk with
  | 0, _ | 1, _ | 2, _ | 3, _ => rfl

theorem getLsbD_ofLanes_cons (b : Byte) (bs : List Byte) {i : Nat} (hi : i < 32) :
    (ofLanes (b :: bs)).getLsbD i = if i < 8 then b.getLsbD i else (ofLanes bs).getLsbD (i - 8) := by
  rw [ofLanes, BitVec.getLsbD_or, BitVec.getLsbD_setWidth, BitVec.getLsbD_shiftLeft]
  by_cases hlow : i < 8
  · simp [hi, hlow]
  · rw [BitVec.getLsbD_of_ge b i (by omega)]
    simp [hi, hlow]

/-- Byte `k` of the value of some lanes is lane `k`. -/
theorem byteOf_ofLanes {bs : List Byte} {k : Nat} (hk : k < 4) (hlen : k < bs.length) : byteOf (ofLanes bs) k = bs[k] := by
  induction bs generalizing k with
  | nil => exact absurd hlen (Nat.not_lt_zero k)
  | cons b bs ih =>
    apply BitVec.eq_of_getLsbD_eq
    intro i hi
    rw [getLsbD_byteOf _ _ hi, getLsbD_ofLanes_cons b bs (by omega)]
    cases k with
    | zero => rw [if_pos (by omega), Nat.mul_zero, Nat.zero_add, List.getElem_cons_zero]
    | succ k =>
      rw [if_neg (by omega), List.getElem_cons_succ, ← ih (by omega) (by simpa using hlen), getLsbD_byteOf _ _ hi]
      congr 1; omega

theorem byteOf_ofLanes_toLanes (v : Word) {k : Nat} (hk : k < 4) : byteOf (ofLanes (toLanes v)) k = byteOf v k := by
  rw [byteOf_ofLanes hk (show k < (toLanes v).length from hk), getElem_toLanes]

/-- The lanes of a word, put together, are the word (R195). -/
theorem ofLanes_toLanes (v : Word) : ofLanes (toLanes v) = v :=
  word_ext fun _ hk => byteOf_ofLanes_toLanes v hk

/-- R53: the four bytes at an address, put in order, are the word there. -/
theorem ofLanes_arrange_four (order : ByteOrder) (b0 b1 b2 b3 : Byte) :
    ofLanes (arrange order [b0, b1, b2, b3]) = word order b0 b1 b2 b3 := by
  have happend : ∀ c0 c1 c2 c3 : Byte, ofLanes [c0, c1, c2, c3] = c3 ++ c2 ++ c1 ++ c0 := by
    intro c0 c1 c2 c3
    apply BitVec.eq_of_getLsbD_eq
    intro i hi
    simp only [BitVec.getLsbD_append]
    rw [getLsbD_ofLanes_cons _ _ hi]
    split
    · rfl
    rw [getLsbD_ofLanes_cons _ _ (by omega)]
    split
    · rfl
    rw [getLsbD_ofLanes_cons _ _ (by omega)]
    split
    · rfl
    rw [getLsbD_ofLanes_cons _ _ (by omega), if_pos (by omega)]
  cases order <;> exact happend _ _ _ _

end Sys2Proof.Machine

/-! SUPPORT. The encoder and the decoder are inverse (30_encoding.md R82 to R86, R109): a word is the cells of its format, and a
row fixes the cells that its mask covers and reads the others. -/

namespace Sys2Proof

/-! ## Every instruction has a row -/

/-- R86: the rows of the table cover the instructions. -/
theorem Laws.rowAccepts (i : Instr) : Laws.RowAccepts.Statement i := by
  cases i with
  | add => exact RowAccepts.add ..
  | addi => exact RowAccepts.addi ..
  | addiu => exact RowAccepts.addiu ..
  | addu => exact RowAccepts.addu ..
  | and => exact RowAccepts.and ..
  | andi => exact RowAccepts.andi ..
  | beq => exact RowAccepts.beq ..
  | bgez => exact RowAccepts.bgez ..
  | bgtz => exact RowAccepts.bgtz ..
  | blez => exact RowAccepts.blez ..
  | bltz => exact RowAccepts.bltz ..
  | bne => exact RowAccepts.bne ..
  | clo => exact RowAccepts.clo ..
  | clz => exact RowAccepts.clz ..
  | div => exact RowAccepts.div ..
  | divu => exact RowAccepts.divu ..
  | j => exact RowAccepts.j ..
  | jal => exact RowAccepts.jal ..
  | jalr => exact RowAccepts.jalr ..
  | jr => exact RowAccepts.jr ..
  | lb => exact RowAccepts.lb ..
  | lbu => exact RowAccepts.lbu ..
  | lh => exact RowAccepts.lh ..
  | lhu => exact RowAccepts.lhu ..
  | ll => exact RowAccepts.ll ..
  | lui => exact RowAccepts.lui ..
  | lw => exact RowAccepts.lw ..
  | lwl => exact RowAccepts.lwl ..
  | lwr => exact RowAccepts.lwr ..
  | mfhi => exact RowAccepts.mfhi ..
  | mflo => exact RowAccepts.mflo ..
  | movn => exact RowAccepts.movn ..
  | movz => exact RowAccepts.movz ..
  | mthi => exact RowAccepts.mthi ..
  | mtlo => exact RowAccepts.mtlo ..
  | mul => exact RowAccepts.mul ..
  | mult => exact RowAccepts.mult ..
  | multu => exact RowAccepts.multu ..
  | nor => exact RowAccepts.nor ..
  | or => exact RowAccepts.or ..
  | ori => exact RowAccepts.ori ..
  | sb => exact RowAccepts.sb ..
  | sc => exact RowAccepts.sc ..
  | sh => exact RowAccepts.sh ..
  | sll => exact RowAccepts.sll ..
  | sllv => exact RowAccepts.sllv ..
  | slt => exact RowAccepts.slt ..
  | slti => exact RowAccepts.slti ..
  | sltiu => exact RowAccepts.sltiu ..
  | sltu => exact RowAccepts.sltu ..
  | sra => exact RowAccepts.sra ..
  | srav => exact RowAccepts.srav ..
  | sync => exact RowAccepts.sync ..
  | srl => exact RowAccepts.srl ..
  | srlv => exact RowAccepts.srlv ..
  | sub => exact RowAccepts.sub ..
  | subu => exact RowAccepts.subu ..
  | sw => exact RowAccepts.sw ..
  | swl => exact RowAccepts.swl ..
  | swr => exact RowAccepts.swr ..
  | syscall => exact RowAccepts.syscall ..
  | xor => exact RowAccepts.xor ..
  | xori => exact RowAccepts.xori ..
  | bal => exact RowAccepts.bal ..
  | synci => exact RowAccepts.synci ..
  | pref => exact RowAccepts.pref ..
  | teq => exact RowAccepts.teq ..
  | rotr => exact RowAccepts.rotr ..
  | rotrv => exact RowAccepts.rotrv ..
  | wsbh => exact RowAccepts.wsbh ..
  | ext => exact RowAccepts.ext ..
  | seh => exact RowAccepts.seh ..
  | seb => exact RowAccepts.seb ..
  | ins => exact RowAccepts.ins ..
  | maddu => exact RowAccepts.maddu ..
  | msubu => exact RowAccepts.msubu ..

/-- R109: the word of an instruction decodes to it. -/
theorem decodeWord_encode (i : Instr) : decodeWord (encode i) = .instr i :=
  (Laws.rowAccepts i).decodeWord_encode

/-! ## A word is made of its cells -/

/-- Two neighbouring cells are one. -/
theorem append_cells (w : Word) (start n m : Nat) :
    w.extractLsb' (start + m) n ++ w.extractLsb' start m = w.extractLsb' start (n + m) :=
  BitVec.extractLsb'_append_extractLsb'_eq_extractLsb' rfl

theorem encI_fields (w : Word) : encI (fieldOp w) (fieldRs w) (fieldRt w) (fieldImm w) = w := by
  rw [encI, fieldOp, fieldRs, fieldRt, fieldImm, append_cells w 21 6 5, append_cells w 16 11 5, append_cells w 0 16 16,
    BitVec.extractLsb'_eq_self]

theorem encR_fields (w : Word) :
    encR (fieldOp w) (fieldRs w) (fieldRt w) (fieldRd w) (fieldShamt w) (fieldFunc w) = w := by
  rw [encR, fieldOp, fieldRs, fieldRt, fieldRd, fieldShamt, fieldFunc, append_cells w 21 6 5, append_cells w 16 11 5,
    append_cells w 11 16 5, append_cells w 6 21 5, append_cells w 0 26 6, BitVec.extractLsb'_eq_self]

theorem encJ_fields (w : Word) : encJ (fieldOp w) (fieldIndex w) = w := by
  rw [encJ, fieldOp, fieldIndex, append_cells w 0 6 26, BitVec.extractLsb'_eq_self]

theorem code20_fields (w : Word) : fieldOp w ++ fieldCode20 w ++ fieldFunc w = w := by
  rw [fieldOp, fieldCode20, fieldFunc, append_cells w 6 6 20, append_cells w 0 26 6, BitVec.extractLsb'_eq_self]

theorem code10_fields (w : Word) : fieldOp w ++ fieldRs w ++ fieldRt w ++ fieldCode10 w ++ fieldFunc w = w := by
  rw [fieldOp, fieldRs, fieldRt, fieldCode10, fieldFunc, append_cells w 21 6 5, append_cells w 16 11 5,
    append_cells w 6 16 10, append_cells w 0 26 6, BitVec.extractLsb'_eq_self]

end Sys2Proof

namespace Sys2Proof

/-! ## A word that a row accepts is the word of the row's instruction -/

/-- A row with mask `m` and pattern `p` that reads its words by `b` loses no bit of them. -/
def Reencodes (m p : Word) (b : Word → Instr) : Prop := ∀ w, w &&& m = p → encode (b w) = w

/-- How a row with mask `m` and pattern `p` gives the `n` bits from `start` of its words: they are read, or the mask covers
them and they are the pattern's. -/
inductive Cell (m p w : Word) (start n : Nat) : BitVec n → Prop where
  | read : Cell m p w start n (w.extractLsb' start n)
  | fixed (hmask : m.extractLsb' start n = BitVec.allOnes n := by decide) : Cell m p w start n (p.extractLsb' start n)

theorem Cell.eq_extractLsb' {m p w : Word} (h : w &&& m = p) {start n : Nat} {c : BitVec n} (hc : Cell m p w start n c) :
    c = w.extractLsb' start n := by
  cases hc with
  | read => rfl
  | fixed hmask => rw [← h, BitVec.extractLsb'_and, hmask, BitVec.and_allOnes]

section Cells

variable {m p w : Word} (h : w &&& m = p) {op func : BitVec 6} {rs rt rd shamt : BitVec 5}

include h

theorem encR_of_cells (hop : Cell m p w 26 6 op) (hrs : Cell m p w 21 5 rs) (hrt : Cell m p w 16 5 rt) (hrd : Cell m p w 11 5 rd)
    (hshamt : Cell m p w 6 5 shamt) (hfunc : Cell m p w 0 6 func) : encR op rs rt rd shamt func = w := by
  rw [hop.eq_extractLsb' h, hrs.eq_extractLsb' h, hrt.eq_extractLsb' h, hrd.eq_extractLsb' h, hshamt.eq_extractLsb' h,
    hfunc.eq_extractLsb' h]
  exact encR_fields w

theorem encI_of_cells {imm : BitVec 16} (hop : Cell m p w 26 6 op) (hrs : Cell m p w 21 5 rs) (hrt : Cell m p w 16 5 rt)
    (himm : Cell m p w 0 16 imm) : encI op rs rt imm = w := by
  rw [hop.eq_extractLsb' h, hrs.eq_extractLsb' h, hrt.eq_extractLsb' h, himm.eq_extractLsb' h]
  exact encI_fields w

theorem encJ_of_cells {index : BitVec 26} (hop : Cell m p w 26 6 op) (hindex : Cell m p w 0 26 index) : encJ op index = w := by
  rw [hop.eq_extractLsb' h, hindex.eq_extractLsb' h]
  exact encJ_fields w

theorem code20_of_cells {code : BitVec 20} (hop : Cell m p w 26 6 op) (hcode : Cell m p w 6 20 code) (hfunc : Cell m p w 0 6 func) :
    op ++ code ++ func = w := by
  rw [hop.eq_extractLsb' h, hcode.eq_extractLsb' h, hfunc.eq_extractLsb' h]
  exact code20_fields w

theorem code10_of_cells {code : BitVec 10} (hop : Cell m p w 26 6 op) (hrs : Cell m p w 21 5 rs) (hrt : Cell m p w 16 5 rt)
    (hcode : Cell m p w 6 10 code) (hfunc : Cell m p w 0 6 func) : op ++ rs ++ rt ++ code ++ func = w := by
  rw [hop.eq_extractLsb' h, hrs.eq_extractLsb' h, hrt.eq_extractLsb' h, hcode.eq_extractLsb' h, hfunc.eq_extractLsb' h]
  exact code10_fields w

end Cells

/-! ## The shapes of the rows: which cells their masks cover -/

section Shapes

variable {p : Word} {b : Word → Instr}

theorem Reencodes.rsRtRd (hb : ∀ w, encode (b w) = encR (p.extractLsb' 26 6) (fieldRs w) (fieldRt w) (fieldRd w)
    (p.extractLsb' 6 5) (p.extractLsb' 0 6) := by intro _; rfl) : Reencodes 0xFC0007FF#32 p b :=
  fun w h => (hb w).trans (encR_of_cells h .fixed .read .read .read .fixed .fixed)

theorem Reencodes.rsRt (hb : ∀ w, encode (b w) = encR (p.extractLsb' 26 6) (fieldRs w) (fieldRt w) (p.extractLsb' 11 5)
    (p.extractLsb' 6 5) (p.extractLsb' 0 6) := by intro _; rfl) : Reencodes 0xFC00FFFF#32 p b :=
  fun w h => (hb w).trans (encR_of_cells h .fixed .read .read .fixed .fixed .fixed)

theorem Reencodes.rtRdSa (hb : ∀ w, encode (b w) = encR (p.extractLsb' 26 6) (p.extractLsb' 21 5) (fieldRt w) (fieldRd w)
    (fieldShamt w) (p.extractLsb' 0 6) := by intro _; rfl) : Reencodes 0xFFE0003F#32 p b :=
  fun w h => (hb w).trans (encR_of_cells h .fixed .fixed .read .read .read .fixed)

theorem Reencodes.rtRd (hb : ∀ w, encode (b w) = encR (p.extractLsb' 26 6) (p.extractLsb' 21 5) (fieldRt w) (fieldRd w)
    (p.extractLsb' 6 5) (p.extractLsb' 0 6) := by intro _; rfl) : Reencodes 0xFFE007FF#32 p b :=
  fun w h => (hb w).trans (encR_of_cells h .fixed .fixed .read .read .fixed .fixed)

theorem Reencodes.rd (hb : ∀ w, encode (b w) = encR (p.extractLsb' 26 6) (p.extractLsb' 21 5) (p.extractLsb' 16 5)
    (fieldRd w) (p.extractLsb' 6 5) (p.extractLsb' 0 6) := by intro _; rfl) : Reencodes 0xFFFF07FF#32 p b :=
  fun w h => (hb w).trans (encR_of_cells h .fixed .fixed .fixed .read .fixed .fixed)

theorem Reencodes.rs (hb : ∀ w, encode (b w) = encR (p.extractLsb' 26 6) (fieldRs w) (p.extractLsb' 16 5)
    (p.extractLsb' 11 5) (p.extractLsb' 6 5) (p.extractLsb' 0 6) := by intro _; rfl) : Reencodes 0xFC1FFFFF#32 p b :=
  fun w h => (hb w).trans (encR_of_cells h .fixed .read .fixed .fixed .fixed .fixed)

theorem Reencodes.rsRtRdSa (hb : ∀ w, encode (b w) = encR (p.extractLsb' 26 6) (fieldRs w) (fieldRt w) (fieldRd w)
    (fieldShamt w) (p.extractLsb' 0 6) := by intro _; rfl) : Reencodes 0xFC00003F#32 p b :=
  fun w h => (hb w).trans (encR_of_cells h .fixed .read .read .read .read .fixed)

theorem Reencodes.rsRtImm (hb : ∀ w, encode (b w) = encI (p.extractLsb' 26 6) (fieldRs w) (fieldRt w) (fieldImm w) := by
    intro _; rfl) : Reencodes 0xFC000000#32 p b :=
  fun w h => (hb w).trans (encI_of_cells h .fixed .read .read .read)

theorem Reencodes.rsImm (hb : ∀ w, encode (b w) = encI (p.extractLsb' 26 6) (fieldRs w) (p.extractLsb' 16 5)
    (fieldImm w) := by intro _; rfl) : Reencodes 0xFC1F0000#32 p b :=
  fun w h => (hb w).trans (encI_of_cells h .fixed .read .fixed .read)

theorem Reencodes.index (hb : ∀ w, encode (b w) = encJ (p.extractLsb' 26 6) (fieldIndex w) := by intro _; rfl) :
    Reencodes 0xFC000000#32 p b :=
  fun w h => (hb w).trans (encJ_of_cells h .fixed .read)

end Shapes

/-! ## The rows, in the table's order -/

theorem reencodes_rowsAddToJalr : ∀ r ∈ rowsAddToJalr, Reencodes r.mask r.pattern r.build := by
  simp only [rowsAddToJalr, List.forall_mem_cons]
  exact ⟨.rsRtRd, .rsRtImm, .rsRtImm, .rsRtRd, .rsRtRd, .rsRtImm, .rsRtImm, .rsImm, .rsImm, .rsImm, .rsImm, .rsRtImm, .rsRtRd,
    .rsRtRd, .rsRt, .rsRt, .index, .index, fun _ h => encR_of_cells h .fixed .read .fixed .read .read .fixed,
    List.forall_mem_nil _⟩

theorem reencodes_rowsJrToMultu : ∀ r ∈ rowsJrToMultu, Reencodes r.mask r.pattern r.build := by
  simp only [rowsJrToMultu, List.forall_mem_cons]
  exact ⟨fun _ h => encR_of_cells h .fixed .read .fixed .fixed .read .fixed, .rsRtImm, .rsRtImm, .rsRtImm, .rsRtImm, .rsRtImm,
    fun _ h => encI_of_cells h .fixed .fixed .read .read, .rsRtImm, .rsRtImm, .rsRtImm, .rd, .rd, .rsRtRd, .rsRtRd, .rs, .rs,
    .rsRtRd, .rsRt, .rsRt, List.forall_mem_nil _⟩

theorem reencodes_rowsNorToSubu : ∀ r ∈ rowsNorToSubu, Reencodes r.mask r.pattern r.build := by
  simp only [rowsNorToSubu, List.forall_mem_cons]
  exact ⟨.rsRtRd, .rsRtRd, .rsRtImm, .rsRtImm, .rsRtImm, .rsRtImm, .rtRdSa, .rsRtRd, .rsRtRd, .rsRtImm, .rsRtImm, .rsRtRd,
    .rtRdSa, .rsRtRd, fun _ h => encR_of_cells h .fixed .fixed .fixed .fixed .read .fixed, .rtRdSa, .rsRtRd, .rsRtRd, .rsRtRd,
    List.forall_mem_nil _⟩

theorem reencodes_rowsSwToMsubu : ∀ r ∈ rowsSwToMsubu, Reencodes r.mask r.pattern r.build := by
  simp only [rowsSwToMsubu, List.forall_mem_cons]
  exact ⟨.rsRtImm, .rsRtImm, .rsRtImm, fun _ h => code20_of_cells h .fixed .read .fixed, .rsRtRd, .rsRtImm,
    fun _ h => encI_of_cells h .fixed .fixed .fixed .read, .rsImm, .rsRtImm,
    fun _ h => code10_of_cells h .fixed .read .read .read .fixed, .rtRdSa, .rsRtRd, .rtRd, .rsRtRdSa, .rtRd, .rtRd, .rsRtRdSa,
    .rsRt, .rsRt, List.forall_mem_nil _⟩

theorem reencodes_opcodeTable : ∀ r ∈ opcodeTable, Reencodes r.mask r.pattern r.build := by
  simp only [opcodeTable, List.forall_mem_append]
  exact ⟨⟨⟨reencodes_rowsAddToJalr, reencodes_rowsJrToMultu⟩, reencodes_rowsNorToSubu⟩, reencodes_rowsSwToMsubu⟩

/-- A word that decodes is one that a row accepts, and the row's reading of it. -/
theorem exists_row_of_decodeWord {w : Word} {i : Instr} (h : decodeWord w = .instr i) :
    ∃ r ∈ opcodeTable, r.accepts w = true ∧ r.build w = i := by
  unfold decodeWord at h
  split at h
  · rename_i r hfind
    exact ⟨r, List.mem_of_find?_eq_some hfind, List.find?_some (p := (Row.accepts · w)) hfind, Decoded.instr.inj h⟩
  · exact nomatch h

end Sys2Proof

/-! CERTIFICATE. The statements on the encoding (30_encoding.md). -/

namespace Sys2Proof.Proofs

open Sys2Proof.Machine Sys2Proof.Spec Sys2Proof.Laws

/-- Settles O43: every instruction has a row that accepts its word and reads it back, and no other row accepts that word. -/
theorem decodeOfEncode : Obligations.DecodeOfEncode := decodeWord_encode

/-- Settles O44: the row that decodes the word fixes the cells its mask covers and reads the others, and encoding puts the same
cells together. -/
theorem encodeOfDecode : Obligations.EncodeOfDecode := by
  intro w i h
  obtain ⟨r, hmem, haccepts, rfl⟩ := exists_row_of_decodeWord h
  exact reencodes_opcodeTable r hmem w (Row.accepts_iff.mp haccepts)

/-- Settles O45: either order of the four bytes is undone by the same order when they are read. -/
theorem decodeOfEncodedBytes : Obligations.DecodeOfEncodedBytes := by
  intro order i rest
  have hbytes : decodeBytes order (encodeBytes order i ++ rest)
      = decodeWord (ofLanes (arrange order (arrange order (toLanes (encode i))))) := by
    cases order <;> rfl
  rw [hbytes, arrange_arrange, ofLanes_toLanes, decodeWord_encode]

/-- Settles O46: of two rows, one stands before the other in the table, and the rows are pairwise separate. -/
theorem atMostOneRowMatches : Obligations.AtMostOneRowMatches := by
  intro w n m r q hr hq hwr hwq
  have hseparate := List.pairwise_iff_getElem.mp opcodeTable_pairwise_separate
  obtain ⟨hn, rfl⟩ := List.getElem?_eq_some_iff.mp hr
  obtain ⟨hm, rfl⟩ := List.getElem?_eq_some_iff.mp hq
  rw [← Row.accepts_iff] at hwr hwq
  rcases Nat.lt_trichotomy n m with hlt | heq | hgt
  · exact absurd hwq ((hseparate n m hn hm hlt).not_both_accept hwr)
  · exact heq
  · exact absurd hwr ((hseparate m n hm hn hgt).not_both_accept hwq)

/-- Settles O47: each of the twelve words is, cell by cell, the word of its instruction. -/
theorem writtenOutWordsDecode : Obligations.WrittenOutWordsDecode :=
  ⟨decodeWord_encode (.addu 8 9 10), decodeWord_encode (.lui 8 0x8001), decodeWord_encode (.rotr 8 10 8),
    decodeWord_encode (.mult 8 9), decodeWord_encode (.lwl 8 9 0xFFFF), decodeWord_encode (.sc 8 9 0),
    decodeWord_encode (.bgez 8 4), decodeWord_encode (.jal 0x410), decodeWord_encode (.syscall 0),
    decodeWord_encode (.teq 8 9 7), decodeWord_encode (.ins 8 10 15 8), decodeWord_encode (.msubu 8 9)⟩

end Sys2Proof.Proofs

/-! SUPPORT. The meaning of the instructions that test something first, one equation per case of the test. -/

namespace Sys2Proof.Machine

section DivideMeanings

variable {rt : RegIdx} {s : State} (rs : RegIdx)

theorem exec_div_of_eq_zero (h : s.gpr rt = 0) : exec (.div rs rt) s = .next s.divideByZero.advance :=
  if_pos (by rw [h]; rfl)

theorem exec_div_of_ne_zero (h : s.gpr rt ≠ 0) :
    exec (.div rs rt) s
      = .next ((s.setHi (BitVec.ofInt 32
            ((s.gpr rs).toInt - (s.gpr rs).toInt.tdiv (s.gpr rt).toInt * (s.gpr rt).toInt))).setLo
          (BitVec.ofInt 32 ((s.gpr rs).toInt.tdiv (s.gpr rt).toInt))).advance :=
  if_neg fun hzero => h (BitVec.eq_of_toInt_eq hzero)

theorem exec_divu_of_eq_zero (h : s.gpr rt = 0) : exec (.divu rs rt) s = .next s.divideByZero.advance :=
  if_pos (by rw [h]; rfl)

theorem exec_divu_of_ne_zero (h : s.gpr rt ≠ 0) :
    exec (.divu rs rt) s
      = .next ((s.setHi (BitVec.ofNat 32 ((s.gpr rs).toNat % (s.gpr rt).toNat))).setLo
          (BitVec.ofNat 32 ((s.gpr rs).toNat / (s.gpr rt).toNat))).advance :=
  if_neg fun hzero => h (BitVec.eq_of_toNat_eq hzero)

end DivideMeanings

section TrapMeaning

variable {rs rt : RegIdx} {s : State} (code : BitVec 10)

theorem exec_teq_of_eq (h : s.gpr rs = s.gpr rt) : exec (.teq rs rt code) s = .fault (.trap code) := if_pos h
theorem exec_teq_of_ne (h : s.gpr rs ≠ s.gpr rt) : exec (.teq rs rt code) s = .next s.advance := if_neg h

end TrapMeaning

section BitFieldMeanings

variable {m lsb : BitVec 5} (rs rt : RegIdx) (s : State)

theorem exec_ext_of_inRange (h : m.toNat + lsb.toNat ≤ 31) :
    exec (.ext rs rt m lsb) s = retire rt (extractField (s.gpr rs) m lsb) s := if_pos (decide_eq_true h)

theorem exec_ext_of_outOfRange (h : 31 < m.toNat + lsb.toNat) :
    exec (.ext rs rt m lsb) s = badBitfield (.ext rs rt m lsb) rt s :=
  if_neg fun hin => absurd (of_decide_eq_true hin) (Nat.not_le_of_lt h)

theorem exec_ins_of_inRange (h : lsb.toNat ≤ m.toNat) :
    exec (.ins rs rt m lsb) s = retire rt (insertField (s.gpr rt) (s.gpr rs) m lsb) s := if_pos (decide_eq_true h)

theorem exec_ins_of_outOfRange (h : m.toNat < lsb.toNat) :
    exec (.ins rs rt m lsb) s = badBitfield (.ins rs rt m lsb) rt s :=
  if_neg fun hin => absurd (of_decide_eq_true hin) (Nat.not_le_of_lt h)

theorem badBitfield_of_fault {s : State} (i : Instr) (h : s.par.bitfieldRange = .fault) :
    badBitfield i rt s = .fault (.badBitfield (encode i)) := by
  simp only [badBitfield, h, raise]

theorem badBitfield_of_draw {s : State} (i : Instr) (h : s.par.bitfieldRange = .draw) :
    badBitfield i rt s = retire rt (Config.bitfieldDraw s.draws) s.drawn := by
  simp only [badBitfield, h]

end BitFieldMeanings

section SyscallMeaning

variable {s : State} (code : BitVec 20)

theorem exec_syscall_of_halt (h : serviceOf (s.gpr s.par.syscallNumReg) = some .halt) :
    exec (.syscall code) s = .next (s.halt (s.gpr s.par.syscallArg0Reg)) := by
  change execSyscall code s = _
  simp only [execSyscall, State.request, h]

theorem exec_syscall_of_service {v : Service} (h : serviceOf (s.gpr s.par.syscallNumReg) = some v) (hv : v ≠ .halt) :
    exec (.syscall code) s = serve s.request s := by
  change execSyscall code s = _
  simp only [execSyscall, State.request, h]

theorem exec_syscall_of_unknown (h : serviceOf (s.gpr s.par.syscallNumReg) = none) :
    exec (.syscall code) s = .fault (.unknownSyscall (s.gpr s.par.syscallNumReg)) := by
  change execSyscall code s = _
  simp only [execSyscall, State.request, h, raise]

end SyscallMeaning

section LinkedMeanings

variable {base rt : RegIdx} {offset : BitVec 16} {s t : State}

/-- R198: an LL that completes has loaded the word. -/
theorem exec_ll_eq_next :
    exec (.ll base rt offset) s = .next t ↔
      ∃ v, memRead s .load (effAddr s base offset) 4 = .next v
        ∧ t = ((s.reserve (effAddr s base offset)).setGpr rt v).advance := by
  change execLl base rt offset s = .next t ↔ _
  simp only [execLl, andThen_eq_next, retire_eq_next]

/-- R208: an SC that completes has passed both checks; it stores if it succeeds. -/
theorem exec_sc_eq_next :
    exec (.sc base rt offset) s = .next t ↔
      (effAddr s base offset).toNat % 4 = 0 ∧ s.validRange .store (effAddr s base offset) 4 = true
        ∧ t = ((if (scResolve s (effAddr s base offset)).1 = true then
              (scResolve s (effAddr s base offset)).2.storeBytes (effAddr s base offset)
                (arrange s.par.byteOrder (toLanes (s.gpr rt)))
            else (scResolve s (effAddr s base offset)).2).clearReservation.setGpr rt
              (boolWord (scResolve s (effAddr s base offset)).1)).advance := by
  change execSc base rt offset s = .next t ↔ _
  simp only [execSc, andThen_eq_next, alignCheck_eq_next, accessCheck_eq_next, retire_eq_next, exists_and_left, exists_const]

end LinkedMeanings

/-! ## The numbers of the services (R249) -/

theorem serviceOf_serviceNumber (v : Service) : serviceOf (serviceNumber v) = some v := by
  cases v <;> rfl

theorem serviceNumber_of_serviceOf {n : Word} {v : Service} (h : serviceOf n = some v) : serviceNumber v = n :=
  beq_iff_eq.mp (List.find?_some (p := fun v => serviceNumber v == n) h)

end Sys2Proof.Machine

/-! SUPPORT. What an instruction that completes can have done: one inversion of `exec`, from which the frames over all
instructions and the invariants follow. -/

namespace Sys2Proof.Machine

open Sys2Proof.Spec

/-! ## The effects -/

/-- Everything that an instruction `i` which completes in the state `s` can have done. Where a policy leaves a value open, `u` is
`s` with that draw counted or not. -/
inductive Effect (i : Instr) (s : State) : State → Prop where
  /-- A general register is written. -/
  | retires {u : State} {r : RegIdx} {v : Word} (hu : u = s ∨ u = s.drawn) (hdest : r ∈ destinations s.par i)
      (hplain : controlTransfer i = false) : Effect i s (u.setGpr r v).advance
  /-- Nothing is written. -/
  | advances (hplain : controlTransfer i = false) : Effect i s s.advance
  /-- MTHI. -/
  | setsHi {h : Word} (hhi : writesHi i = true) (hplain : controlTransfer i = false) : Effect i s (s.setHi h).advance
  /-- MTLO. -/
  | setsLo {l : Word} (hlo : writesLo i = true) (hplain : controlTransfer i = false) : Effect i s (s.setLo l).advance
  /-- The multiplies and divides that leave their result in `hi` and `lo`. -/
  | setsHiLo {u : State} {h l : Word} (hu : u = s ∨ u = s.drawn) (hhi : writesHi i = true) (hlo : writesLo i = true)
      (hplain : controlTransfer i = false) : Effect i s ((u.setHi h).setLo l).advance
  /-- LL. -/
  | reserves {base rt : RegIdx} {offset : BitVec 16} {a v : Word} (hi : i = .ll base rt offset) (haligned : a.toNat % 4 = 0) :
      Effect i s ((s.reserve a).setGpr rt v).advance
  /-- A store. -/
  | stores {start : Word} {bs : List Byte} (hmem : writesMemory i = true)
      (hvalid : s.validRange .store start bs.length = true) (hplain : controlTransfer i = false) :
      Effect i s (s.storeBytes start bs).advance
  /-- An SC that does not store. -/
  | failsConditionally {base rt : RegIdx} {offset : BitVec 16} {u : State} {v : Word} (hi : i = .sc base rt offset)
      (hu : u = s ∨ u = s.drawn) : Effect i s (u.clearReservation.setGpr rt v).advance
  /-- An SC that stores. -/
  | storesConditionally {base rt : RegIdx} {offset : BitVec 16} {u : State} {start v : Word} {bs : List Byte}
      (hi : i = .sc base rt offset) (hu : u = s ∨ u = s.drawn) (hvalid : s.validRange .store start bs.length = true) :
      Effect i s ((u.storeBytes start bs).clearReservation.setGpr rt v).advance
  /-- A control transfer without a link; `fallThrough` is one to the next instruction but one. -/
  | transfers {target : Word} (hct : controlTransfer i = true) : Effect i s (s.branchTo target)
  /-- A control transfer with a link. -/
  | links {r : RegIdx} {v target : Word} (hdest : r ∈ destinations s.par i) (hct : controlTransfer i = true) :
      Effect i s ((s.setGpr r v).branchTo target)
  /-- A SYSCALL that the environment answers. -/
  | serves {code : BitVec 20} {writes : List (Word × Byte)} {after : Environment} {ret : Option Word}
      (hi : i = .syscall code) (hlegal : legalWrites s writes = true) :
      Effect i s (((s.served writes after).setReturn ret).clearReservation).advance
  /-- HALT. -/
  | halts {code : BitVec 20} (hi : i = .syscall code) (hnumber : s.gpr s.par.syscallNumReg = 0) :
      Effect i s (s.halt (s.gpr s.par.syscallArg0Reg))

/-! ## The effect of each shared shape -/

section Shapes

variable {i : Instr} {s t : State}

theorem effect_of_retire {r : RegIdx} {v : Word} (h : retire r v s = .next t) (hdest : r ∈ destinations s.par i)
    (hplain : controlTransfer i = false) : Effect i s t :=
  retire_eq_next.mp h ▸ .retires (.inl rfl) hdest hplain

theorem effect_of_advance (h : (Host.Outcome.next s.advance : Res State) = .next t) (hplain : controlTransfer i = false) :
    Effect i s t :=
  next_eq_next.mp h ▸ .advances hplain

theorem effect_of_setHiLo {v : BitVec 64} (h : (Host.Outcome.next (s.setHiLo v).advance : Res State) = .next t)
    (hhi : writesHi i = true) (hlo : writesLo i = true) (hplain : controlTransfer i = false) : Effect i s t :=
  next_eq_next.mp h ▸ .setsHiLo (.inl rfl) hhi hlo hplain

theorem effect_of_divideByZero (h : (Host.Outcome.next s.divideByZero.advance : Res State) = .next t)
    (hhi : writesHi i = true) (hlo : writesLo i = true) (hplain : controlTransfer i = false) : Effect i s t := by
  rw [next_eq_next.mp h, divideByZero_eq]
  split
  · exact .setsHiLo (u := s.drawn) (.inr rfl) hhi hlo hplain
  · exact .setsHiLo (.inl rfl) hhi hlo hplain

theorem effect_of_loadWith {f : Word → Word} {n : Nat} {base rt : RegIdx} {offset : BitVec 16}
    (h : loadWith f n base rt offset s = .next t) (hdest : rt ∈ destinations s.par i) (hplain : controlTransfer i = false) :
    Effect i s t := by
  obtain ⟨v, -, rfl⟩ := loadWith_eq_next.mp h
  exact .retires (.inl rfl) hdest hplain

/-- LWL and LWR. -/
theorem effect_of_loadLanes {addr start : Word} {n : Nat} {rt : RegIdx} {f : List Byte → Word}
    (h : andThen (loadLanes s .load addr start n) (fun lanes => retire rt (f lanes) s) = .next t)
    (hdest : rt ∈ destinations s.par i) (hplain : controlTransfer i = false) : Effect i s t := by
  obtain ⟨lanes, -, hretire⟩ := andThen_eq_next.mp h
  exact effect_of_retire hretire hdest hplain

theorem effect_of_storeLanes {addr start : Word} {lanes : List Byte}
    (h : andThen (storeLanes s addr start lanes) (fun u => .next u.advance) = .next t) (hmem : writesMemory i = true)
    (hplain : controlTransfer i = false) : Effect i s t := by
  obtain ⟨u, hstore, hnext⟩ := andThen_eq_next.mp h
  obtain ⟨hvalid, rfl⟩ := storeLanes_eq_next.mp hstore
  rw [next_eq_next.mp hnext]
  exact .stores hmem (by rwa [arrange_length]) hplain

theorem effect_of_storeLow {n : Nat} {base rt : RegIdx} {offset : BitVec 16} (h : storeLow n base rt offset s = .next t)
    (hmem : writesMemory i = true) (hplain : controlTransfer i = false) : Effect i s t := by
  obtain ⟨u, hwrite, rfl⟩ := storeLow_eq_next.mp h
  obtain ⟨-, hstore⟩ := memWrite_eq_next.mp hwrite
  exact effect_of_storeLanes (by rw [hstore]; rfl) hmem hplain

theorem effect_of_branchIf {taken : Bool} {offset : BitVec 16} (h : branchIf taken offset s = .next t)
    (hct : controlTransfer i = true) : Effect i s t := by
  obtain ⟨-, rfl⟩ := branchIf_eq_next.mp h
  cases taken
  · exact .transfers (target := s.npc + 4) hct
  · exact .transfers hct

theorem effect_of_jump {target : Word} (h : slotCheck s (.next (s.branchTo target)) = .next t)
    (hct : controlTransfer i = true) : Effect i s t := by
  obtain ⟨-, hnext⟩ := slotCheck_eq_next.mp h
  exact next_eq_next.mp hnext ▸ .transfers hct

theorem effect_of_link {r : RegIdx} {v target : Word} (h : slotCheck s (.next ((s.setGpr r v).branchTo target)) = .next t)
    (hdest : r ∈ destinations s.par i) (hct : controlTransfer i = true) : Effect i s t := by
  obtain ⟨-, hnext⟩ := slotCheck_eq_next.mp h
  exact next_eq_next.mp hnext ▸ .links hdest hct

theorem effect_of_badBitfield {j : Instr} {rt : RegIdx} (h : badBitfield j rt s = .next t)
    (hdest : rt ∈ destinations s.par i) (hplain : controlTransfer i = false) : Effect i s t := by
  obtain ⟨-, rfl⟩ := badBitfield_eq_next.mp h
  exact .retires (.inr rfl) hdest hplain

end Shapes

/-! ## The instructions with a shape of their own -/

section Single

variable {s t : State}

theorem effect_of_div {rs rt : RegIdx} (h : exec (.div rs rt) s = .next t) : Effect (.div rs rt) s t := by
  by_cases hzero : s.gpr rt = 0
  · rw [exec_div_of_eq_zero rs hzero] at h; exact effect_of_divideByZero h rfl rfl rfl
  · rw [exec_div_of_ne_zero rs hzero] at h; exact next_eq_next.mp h ▸ .setsHiLo (.inl rfl) rfl rfl rfl

theorem effect_of_divu {rs rt : RegIdx} (h : exec (.divu rs rt) s = .next t) : Effect (.divu rs rt) s t := by
  by_cases hzero : s.gpr rt = 0
  · rw [exec_divu_of_eq_zero rs hzero] at h; exact effect_of_divideByZero h rfl rfl rfl
  · rw [exec_divu_of_ne_zero rs hzero] at h; exact next_eq_next.mp h ▸ .setsHiLo (.inl rfl) rfl rfl rfl

theorem effect_of_movn {rs rt rd : RegIdx} (h : exec (.movn rs rt rd) s = .next t) : Effect (.movn rs rt rd) s t := by
  by_cases hzero : s.gpr rt = 0
  · rw [exec_movn_of_eq_zero rs rd hzero] at h; exact effect_of_advance h rfl
  · rw [exec_movn_of_ne_zero rs rd hzero] at h; exact effect_of_retire h (List.mem_singleton_self rd) rfl

theorem effect_of_movz {rs rt rd : RegIdx} (h : exec (.movz rs rt rd) s = .next t) : Effect (.movz rs rt rd) s t := by
  by_cases hzero : s.gpr rt = 0
  · rw [exec_movz_of_eq_zero rs rd hzero] at h; exact effect_of_retire h (List.mem_singleton_self rd) rfl
  · rw [exec_movz_of_ne_zero rs rd hzero] at h; exact effect_of_advance h rfl

theorem effect_of_teq {rs rt : RegIdx} {code : BitVec 10} (h : exec (.teq rs rt code) s = .next t) :
    Effect (.teq rs rt code) s t := by
  by_cases heq : s.gpr rs = s.gpr rt
  · rw [exec_teq_of_eq code heq] at h; exact nomatch h
  · rw [exec_teq_of_ne code heq] at h; exact effect_of_advance h rfl

theorem effect_of_ext {rs rt : RegIdx} {msbd lsb : BitVec 5} (h : exec (.ext rs rt msbd lsb) s = .next t) :
    Effect (.ext rs rt msbd lsb) s t := by
  rcases Nat.lt_or_ge 31 (msbd.toNat + lsb.toNat) with hout | hin
  · rw [exec_ext_of_outOfRange rs rt s hout] at h; exact effect_of_badBitfield h (List.mem_singleton_self rt) rfl
  · rw [exec_ext_of_inRange rs rt s hin] at h; exact effect_of_retire h (List.mem_singleton_self rt) rfl

theorem effect_of_ins {rs rt : RegIdx} {msb lsb : BitVec 5} (h : exec (.ins rs rt msb lsb) s = .next t) :
    Effect (.ins rs rt msb lsb) s t := by
  rcases Nat.lt_or_ge msb.toNat lsb.toNat with hout | hin
  · rw [exec_ins_of_outOfRange rs rt s hout] at h; exact effect_of_badBitfield h (List.mem_singleton_self rt) rfl
  · rw [exec_ins_of_inRange rs rt s hin] at h; exact effect_of_retire h (List.mem_singleton_self rt) rfl

theorem effect_of_ll {base rt : RegIdx} {offset : BitVec 16} (h : exec (.ll base rt offset) s = .next t) :
    Effect (.ll base rt offset) s t := by
  obtain ⟨v, hread, rfl⟩ := exec_ll_eq_next.mp h
  obtain ⟨haligned, -⟩ := memRead_eq_next.mp hread
  exact .reserves rfl haligned

theorem effect_of_sc {base rt : RegIdx} {offset : BitVec 16} (h : exec (.sc base rt offset) s = .next t) :
    Effect (.sc base rt offset) s t := by
  obtain ⟨-, hvalid, rfl⟩ := exec_sc_eq_next.mp h
  have hu := scResolve_snd s (effAddr s base offset)
  split
  · exact .storesConditionally rfl hu (by simpa using hvalid)
  · exact .failsConditionally rfl hu

theorem effect_of_syscall {code : BitVec 20} (h : exec (.syscall code) s = .next t) : Effect (.syscall code) s t := by
  cases hservice : serviceOf (s.gpr s.par.syscallNumReg) with
  | none => rw [exec_syscall_of_unknown code hservice] at h; exact nomatch h
  | some v =>
    by_cases hv : v = .halt
    · subst hv
      rw [exec_syscall_of_halt code hservice] at h
      exact next_eq_next.mp h ▸ .halts rfl (serviceNumber_of_serviceOf hservice).symm
    · rw [exec_syscall_of_service code hservice hv] at h
      obtain ⟨ret, writes, after, -, hlegal, rfl⟩ := serve_eq_next.mp h
      exact .serves rfl hlegal

end Single

/-! ## The inversion of `exec` -/

/-- Whatever the instruction, if it completes, it had one of the effects. -/
theorem effect_of_exec {i : Instr} {s t : State} (h : exec i s = .next t) : Effect i s t := by
  cases i with
  | add | addu | and | clo | clz | mfhi | mflo | mul | nor | or | sll | sllv | slt | sltu | sra | srav | srl | srlv | sub
  | subu | xor | rotr | rotrv | wsbh | seh | seb => exact effect_of_retire h (List.mem_singleton_self _) rfl
  | addi | addiu | andi | lui | ori | slti | sltiu | xori => exact effect_of_retire h (List.mem_singleton_self _) rfl
  | beq | bgez | bgtz | blez | bltz | bne => exact effect_of_branchIf h rfl
  | j | jr => exact effect_of_jump h rfl
  | jal | jalr | bal => exact effect_of_link h (List.mem_singleton_self _) rfl
  | div => exact effect_of_div h
  | divu => exact effect_of_divu h
  | mult | multu | maddu | msubu => exact effect_of_setHiLo h rfl rfl rfl
  | mthi => exact next_eq_next.mp h ▸ .setsHi rfl rfl
  | mtlo => exact next_eq_next.mp h ▸ .setsLo rfl rfl
  | lb | lbu | lh | lhu | lw => exact effect_of_loadWith h (List.mem_singleton_self _) rfl
  | lwl | lwr => exact effect_of_loadLanes h (List.mem_singleton_self _) rfl
  | ll => exact effect_of_ll h
  | sb | sh | sw => exact effect_of_storeLow h rfl rfl
  | swl | swr => exact effect_of_storeLanes h rfl rfl
  | sc => exact effect_of_sc h
  | movn => exact effect_of_movn h
  | movz => exact effect_of_movz h
  | teq => exact effect_of_teq h
  | ext => exact effect_of_ext h
  | ins => exact effect_of_ins h
  | sync | synci | pref => exact effect_of_advance h rfl
  | syscall => exact effect_of_syscall h

end Sys2Proof.Machine

/-! SUPPORT. The frames over all instructions (10_state.md R9, R27, R34, 20_memory.md R51), each by cases over the effects, and the
invariants of a step and of a run. -/

namespace Sys2Proof.Machine

open Sys2Proof.Spec

theorem State.gpr_setReturn_other {s : State} {q : RegIdx} (ret : Option Word) (h : q ≠ s.par.syscallRetReg) :
    (s.setReturn ret).gpr q = s.gpr q := by
  cases ret with
  | none => rfl
  | some v => exact State.gpr_setGpr_other s h v

theorem writesMemory_of_keepsReservation {i : Instr} (h : keepsReservation i = true) : writesMemory i = false := by
  unfold keepsReservation at h
  split at h
  · exact nomatch h
  · simpa using h

/-- A byte reads as before, or it is one of those stored, which are valid for `store`. -/
theorem read_storeBytes_eq_or {s u : State} {start : Word} {bs : List Byte} (hu : u = s ∨ u = s.drawn)
    (hvalid : s.validRange .store start bs.length = true) (a : Word) :
    Memory.read (u.storeBytes start bs).mem a.toNat = Memory.read s.mem a.toNat ∨ Params.valid s.par .store a = true := by
  have hmem : u.mem = s.mem := by rcases hu with rfl | rfl <;> rfl
  by_cases hnear : ∃ i < bs.length, (start + BitVec.ofNat 32 i).toNat = a.toNat
  · right
    obtain ⟨i, hi, heq⟩ := hnear
    rw [← BitVec.eq_of_toNat_eq heq]
    exact validRange_eq_true.mp hvalid i hi
  · left
    rw [read_storeBytes_other u start bs a.toNat fun i hi heq => hnear ⟨i, hi, heq⟩, hmem]

namespace Effect

variable {i : Instr} {s t : State} (h : Effect i s t)

include h

/-! ## What an effect leaves unchanged -/

/-- Log entry 1: no instruction changes a parameter. -/
theorem par_eq : t.par = s.par := by
  cases h with
  | retires hu | setsHiLo hu | failsConditionally _ hu | storesConditionally _ hu => rcases hu with rfl | rfl <;> simp
  | _ => simp

theorem gpr_eq {q : RegIdx} (hq : q ∉ destinations s.par i) : t.gpr q = s.gpr q := by
  cases h with
  | retires hu hdest =>
    have hne := ne_of_mem_of_not_mem hdest hq
    rcases hu with rfl | rfl <;> simp [hne.symm]
  | links hdest =>
    have hne := ne_of_mem_of_not_mem hdest hq
    simp [hne.symm]
  | setsHiLo hu => rcases hu with rfl | rfl <;> simp
  | reserves hi =>
    subst hi
    have hne := List.ne_of_not_mem_cons hq
    simp [hne]
  | failsConditionally hi hu | storesConditionally hi hu =>
    subst hi
    have hne := List.ne_of_not_mem_cons hq
    rcases hu with rfl | rfl <;> simp [hne]
  | serves hi =>
    subst hi
    simp only [State.advance_gpr, State.clearReservation_gpr]
    exact State.gpr_setReturn_other _ (List.ne_of_not_mem_cons hq)
  | _ => simp

theorem hi_eq (hhi : writesHi i = false) : t.hi = s.hi := by
  cases h with
  | setsHi hwrites | setsHiLo _ hwrites => exact absurd hwrites (by simp [hhi])
  | retires hu | failsConditionally _ hu | storesConditionally _ hu => rcases hu with rfl | rfl <;> simp
  | _ => simp

theorem lo_eq (hlo : writesLo i = false) : t.lo = s.lo := by
  cases h with
  | setsLo hwrites | setsHiLo _ _ hwrites => exact absurd hwrites (by simp [hlo])
  | retires hu | failsConditionally _ hu | storesConditionally _ hu => rcases hu with rfl | rfl <;> simp
  | _ => simp

/-- A byte reads as before, or the instruction is one that writes memory and the byte is valid for `store`. -/
theorem read_eq_or (a : Word) :
    Memory.read t.mem a.toNat = Memory.read s.mem a.toNat
      ∨ writesMemory i = true ∧ Params.valid s.par .store a = true := by
  cases h with
  | retires hu | setsHiLo hu | failsConditionally _ hu => left; rcases hu with rfl | rfl <;> simp
  | stores hmem hvalid => exact (read_storeBytes_eq_or (.inl rfl) hvalid a).imp id fun hstore => ⟨hmem, hstore⟩
  | storesConditionally hi hu hvalid =>
    subst hi
    simpa [writesMemory] using read_storeBytes_eq_or hu hvalid a
  | @serves _ writes _ _ hi hlegal =>
    subst hi
    by_cases hnear : ∃ w ∈ writes, w.1.toNat = a.toNat
    · right
      obtain ⟨w, hw, heq⟩ := hnear
      refine ⟨rfl, ?_⟩
      rw [← BitVec.eq_of_toNat_eq heq]
      exact List.all_eq_true.mp hlegal w hw
    · left
      simp [Memory.read_writeCells_other writes s.mem a.toNat fun w hw heq => hnear ⟨w, hw, heq⟩]
  | _ => left; simp

/-! ## The reservation (R34) -/

theorem reservationKept (hkeeps : keepsReservation i = true) : ReservationKept s t := by
  have hmem := writesMemory_of_keepsReservation hkeeps
  cases h with
  | retires hu | setsHiLo hu => rcases hu with rfl | rfl <;> simp [ReservationKept]
  | stores hwrites => exact absurd hwrites (by simp [hmem])
  | reserves hi => exact absurd hkeeps (by simp [hi, keepsReservation])
  | failsConditionally hi | storesConditionally hi | serves hi => exact absurd hmem (by simp [hi, writesMemory])
  | _ => simp [ReservationKept]

/-- R198: the address is kept and no reservation made, or the instruction is LL and its address is word-aligned. -/
theorem reservation_eq_or :
    (t.llAddr = s.llAddr ∧ (t.llValid = true → s.llValid = true))
      ∨ (∃ base rt offset, i = .ll base rt offset) ∧ t.llAddr.toNat % 4 = 0 := by
  cases h with
  | reserves hi haligned => right; exact ⟨⟨_, _, _, hi⟩, by simpa using haligned⟩
  | retires hu | setsHiLo hu | failsConditionally _ hu | storesConditionally _ hu =>
    left; rcases hu with rfl | rfl <;> simp
  | stores => left; simp +contextual
  | _ => left; simp

/-- Only what writes memory loses a reservation. -/
theorem writesMemory_of_lost (hheld : s.llValid = true) (hlost : t.llValid = false) : writesMemory i = true := by
  cases h with
  | retires hu | setsHiLo hu => rcases hu with rfl | rfl <;> simp [hheld] at hlost
  | stores hmem => exact hmem
  | failsConditionally hi | storesConditionally hi | serves hi => subst hi; rfl
  | _ => simp [hheld] at hlost

/-! ## The program counters and the outcome (R12, R30) -/

theorem ds_eq_and_pc_eq (hrun : t.outcome = .running) : t.ds = controlTransfer i ∧ t.pc = s.npc := by
  cases h with
  | retires hu _ hplain | setsHiLo hu _ _ hplain => rcases hu with rfl | rfl <;> simp [hplain]
  | failsConditionally hi hu | storesConditionally hi hu => subst hi; rcases hu with rfl | rfl <;> simp [controlTransfer]
  | reserves hi | serves hi => subst hi; simp [controlTransfer]
  | advances hplain | setsHi _ hplain | setsLo _ hplain | stores _ _ hplain => simp [hplain]
  | transfers hct | links _ hct => simp [hct]
  | halts => simp at hrun

/-- R14, R252: the outcome changes by HALT alone. -/
theorem outcome_eq_or : t.outcome = s.outcome
    ∨ (∃ code, i = .syscall code) ∧ s.gpr s.par.syscallNumReg = 0
      ∧ t.outcome = .halted (s.gpr s.par.syscallArg0Reg) := by
  cases h with
  | retires hu | setsHiLo hu | failsConditionally _ hu | storesConditionally _ hu =>
    left; rcases hu with rfl | rfl <;> simp
  | halts hi hnumber => exact .inr ⟨⟨_, hi⟩, hnumber, rfl⟩
  | _ => left; simp

/-! ## The invariant -/

theorem mem_wf (hwf : Memory.wf s.mem = true) : Memory.wf t.mem = true := by
  cases h with
  | retires hu | setsHiLo hu | failsConditionally _ hu => rcases hu with rfl | rfl <;> simpa
  | stores => exact Memory.wf_writeBytes hwf _ _
  | storesConditionally _ hu => rcases hu with rfl | rfl <;> simpa using Memory.wf_writeBytes hwf _ _
  | serves => simpa using Memory.wf_writeCells hwf _
  | _ => simpa

theorem regs_zero_eq : t.regs[0] = s.regs[0] := by
  cases h with
  | retires hu | setsHiLo hu | failsConditionally _ hu | storesConditionally _ hu => rcases hu with rfl | rfl <;> simp
  | _ => simp

theorem llAddr_aligned (haligned : s.llValid = true → s.llAddr.toNat % 4 = 0) (hheld : t.llValid = true) :
    t.llAddr.toNat % 4 = 0 := by
  rcases h.reservation_eq_or with ⟨haddr, hvalid⟩ | ⟨-, hll⟩
  · rw [haddr]; exact haligned (hvalid hheld)
  · exact hll

/-- R29: outside a delay slot `npc` is `pc + 4`. -/
theorem npc_eq (hnpc : s.ds = false → s.npc = s.pc + 4) (hds : t.ds = false) : t.npc = t.pc + 4 := by
  cases h with
  | retires hu | setsHiLo hu | failsConditionally _ hu | storesConditionally _ hu => rcases hu with rfl | rfl <;> simp
  | transfers | links => simp at hds
  | halts => exact hnpc hds
  | _ => simp

end Effect

theorem llValid_of_exec_sc {base rt : RegIdx} {offset : BitVec 16} {s t : State}
    (h : exec (.sc base rt offset) s = .next t) : t.llValid = false := by
  obtain ⟨-, -, rfl⟩ := exec_sc_eq_next.mp h
  simp

end Sys2Proof.Machine

/-! SUPPORT. A step and a run (00_scope.md R13, R14): what a step keeps, and what every run then keeps. -/

namespace Sys2Proof.Machine

/-- A step with a next state is taken from a running machine and executes the instruction fetched. -/
theorem exists_instr_of_step {s t : State} (h : step s = .next t) :
    s.outcome = .running ∧ ∃ i, fetchInstr s = .next i ∧ exec i s = .next t := by
  unfold step at h
  split at h
  · exact ⟨‹_›, andThen_eq_next.mp h⟩
  · exact nomatch h

/-- The clauses of the invariant. -/
theorem State.wf_iff {s : State} :
    s.wf = true ↔ Memory.wf s.mem = true ∧ s.regs[0] = 0 ∧ Params.disjoint s.par = true
      ∧ (s.llValid = true → s.llAddr.toNat % 4 = 0) ∧ (s.ds = false → s.npc = s.pc + 4) := by
  simp only [State.wf, Bool.and_eq_true, Bool.or_eq_true, Bool.not_eq_true', beq_iff_eq, and_assoc]
  cases s.llValid <;> cases s.ds <;> simp

theorem Effect.wf {i : Instr} {s t : State} (h : Effect i s t) (hwf : s.wf = true) : t.wf = true := by
  obtain ⟨hmem, hzero, hdisjoint, haligned, hnpc⟩ := State.wf_iff.mp hwf
  exact State.wf_iff.mpr ⟨h.mem_wf hmem, h.regs_zero_eq.trans hzero, by rwa [h.par_eq], h.llAddr_aligned haligned,
    h.npc_eq hnpc⟩

/-- R69: a byte that is valid for `fetch` is not valid for `store`. -/
theorem Params.not_store_valid_of_fetch_valid {p : Params} (hdisjoint : Params.disjoint p = true) {a : Word}
    (hfetch : Params.valid p .fetch a = true) : ¬ Params.valid p .store a = true := by
  intro hstore
  obtain ⟨r, hr, hrfetch⟩ := List.any_eq_true.mp hfetch
  obtain ⟨q, hq, hqstore⟩ := List.any_eq_true.mp hstore
  have hapart := List.all_eq_true.mp (List.all_eq_true.mp hdisjoint r hr) q hq
  simp only [Region.covers, Region.permits, Bool.and_eq_true, decide_eq_true_eq] at hrfetch hqstore
  obtain ⟨⟨hrlow, hrhigh⟩, hf⟩ := hrfetch
  obtain ⟨⟨hqlow, hqhigh⟩, hs⟩ := hqstore
  simp only [hf, hs, Region.overlaps, Bool.true_and, Bool.not_eq_true', decide_eq_false_iff_not] at hapart
  omega

/-- D24: an instruction changes neither a byte that is valid for `fetch` nor a parameter. -/
theorem Effect.text_eq {i : Instr} {s t : State} (h : Effect i s t) (hdisjoint : Params.disjoint s.par = true) {a : Word}
    (hfetch : Params.valid s.par .fetch a = true) : Memory.read t.mem a.toNat = Memory.read s.mem a.toNat := by
  rcases h.read_eq_or a with hsame | ⟨-, hstore⟩
  · exact hsame
  · exact absurd hstore (Params.not_store_valid_of_fetch_valid hdisjoint hfetch)

/-- A run goes from state to state by steps, faults and standing still. -/
theorem settle_step_cases {P : State → Prop} {s : State} (hnext : ∀ i t, exec i s = .next t → P t)
    (hfault : ∀ f, P (s.takeFault f)) (hstay : P s) : P (s.settle (step s)) := by
  cases hstep : step s with
  | next t =>
    obtain ⟨-, i, -, hexec⟩ := exists_instr_of_step hstep
    exact hnext i t hexec
  | fault f => exact hfault f
  | refused r => exact hstay

/-- What executing an instruction and taking a fault keep, every run keeps. -/
theorem runFor_induction {P : State → Prop} (hnext : ∀ {s}, P s → ∀ i t, exec i s = .next t → P t)
    (hfault : ∀ {s}, P s → ∀ f, P (s.takeFault f)) {s : State} (hstart : P s) (n : Nat) : P (runFor n s) := by
  induction n generalizing s with
  | zero => exact hstart
  | succ n ih => exact ih (settle_step_cases (hnext hstart) (hfault hstart) hstart)

/-- R300: a run that a fault has ended stays as the fault left it. -/
theorem runFor_succ_of_fault {s : State} {f : Fault} (h : step s = .fault f) (n : Nat) :
    runFor (n + 1) s = s.takeFault f := by
  have hended : step (s.takeFault f) = .refused .runEnded := step_of_ended (by simp)
  rw [runFor, h, State.settle, runFor_of_refused hended]

end Sys2Proof.Machine

/-! CERTIFICATE. The statements on the step and the run (00_scope.md, 60_exceptions.md, 70_reset_and_hazards.md). -/

namespace Sys2Proof.Proofs

open Sys2Proof.Machine Sys2Proof.Spec

/-- Settles O57: each effect keeps each clause of the invariant. -/
theorem stepKeepsTheInvariant : Obligations.StepKeepsTheInvariant := by
  intro s t hwf hstep
  obtain ⟨-, i, -, hexec⟩ := exists_instr_of_step hstep
  exact (effect_of_exec hexec).wf hwf

/-- Settles O59, by induction on the steps: an effect changes only bytes valid for `store`, and by R69 none of those is valid for
`fetch`. -/
theorem programTextNeverChanges : Obligations.ProgramTextNeverChanges := by
  intro n s a hdisjoint hfetch
  refine runFor_induction (P := fun t => Memory.read t.mem a.toNat = Memory.read s.mem a.toNat ∧ t.par = s.par) ?_ ?_
    ⟨rfl, rfl⟩ n
  · rintro u ⟨hread, hpar⟩ i t hexec
    have heffect := effect_of_exec hexec
    exact ⟨(heffect.text_eq (by rwa [hpar]) (by rwa [hpar])).trans hread, heffect.par_eq.trans hpar⟩
  · rintro u hkept f
    exact hkept

/-- Settles O50: a fault leaves the state with the fault as its outcome, from which there is no step. -/
theorem faultEndsTheRunAndChangesNothing : Obligations.FaultEndsTheRunAndChangesNothing := by
  intro s f hfault n
  exact ⟨_, runFor_succ_of_fault hfault n, rfl, step_of_ended (by simp), fun _ => rfl, ⟨rfl, rfl⟩, ⟨rfl, rfl⟩, fun _ => rfl,
    rfl, rfl, rfl, rfl, rfl, rfl, rfl⟩

/-- Settles O51: HALT is the one effect that changes the outcome. -/
theorem onlyHaltStopsWithoutFault : Obligations.OnlyHaltStopsWithoutFault := by
  intro s t hstep
  obtain ⟨hrun, i, hfetch, hexec⟩ := exists_instr_of_step hstep
  refine ⟨hrun, ?_⟩
  rcases (effect_of_exec hexec).outcome_eq_or with hsame | ⟨⟨code, rfl⟩, hnumber, hhalted⟩
  · exact .inl (hsame.trans hrun)
  · exact .inr ⟨⟨code, hfetch⟩, hnumber, hhalted⟩

/-- Settles O52, by cases over the effects. -/
theorem registersChangeOnlyAsDestinations : Obligations.RegistersChangeOnlyAsDestinations :=
  fun _ _ _ _ hexec hq => (effect_of_exec hexec).gpr_eq hq

/-- Settles O53, by cases over the effects. -/
theorem hiLoChangeOnlyByTheirWriters : Obligations.HiLoChangeOnlyByTheirWriters :=
  fun _ _ _ hexec => ⟨(effect_of_exec hexec).hi_eq, (effect_of_exec hexec).lo_eq⟩

/-- Settles O54: the bytes that a store, an SC or a reply writes have passed the check for `store`. -/
theorem onlyStoreValidBytesChange : Obligations.OnlyStoreValidBytesChange :=
  fun _ _ _ a hexec hchanged => ((effect_of_exec hexec).read_eq_or a).resolve_left hchanged

/-- Settles O55, by cases over the effects; that an SC holds none afterwards is its own equation. -/
theorem reservationChangesOnlyAsStated : Obligations.ReservationChangesOnlyAsStated := by
  intro i s t hexec
  have heffect := effect_of_exec hexec
  refine ⟨heffect.reservationKept, fun hchanged => ?_, fun ⟨hheld, hlost⟩ => heffect.writesMemory_of_lost hheld hlost, ?_⟩
  · rcases heffect.reservation_eq_or with ⟨haddr, hvalid⟩ | ⟨hll, -⟩
    · rcases hchanged with hmoved | ⟨hmade, hnone⟩
      · exact absurd haddr hmoved
      · exact absurd (hvalid hmade) (by simp [hnone])
    · exact hll
  · rintro base rt offset rfl
    exact llValid_of_exec_sc hexec

/-- Settles O56, by cases over the effects: `branchTo` sets the flag, everything else that leaves the machine running advances. -/
theorem delaySlotFlagFollowsTransfers : Obligations.DelaySlotFlagFollowsTransfers :=
  fun _ _ _ hexec _ hrun => (effect_of_exec hexec).ds_eq_and_pc_eq hrun

/-- Settles O58: the reset state has no memory, no region and no reservation, and stands before its first instruction. -/
theorem resetMeetsTheInvariant : Obligations.ResetMeetsTheInvariant :=
  State.wf_iff.mpr ⟨State.reset_mem_wf, by decide, rfl, fun h => absurd h (by decide), fun _ => rfl⟩

/-- Settles O60, field by field; register 0 reads 0 whatever its storage, and the others as given. -/
theorem startState : Obligations.StartState := by
  refine ⟨fun a => ⟨rfl, rfl, rfl, rfl, rfl, rfl, fun r hr => ?_, rfl, rfl, rfl, rfl, rfl⟩, ⟨_, rfl⟩, rfl, rfl, rfl, rfl, rfl, rfl,
    rfl, rfl, rfl⟩
  have hne : 0 ≠ r.toNat := fun h => hr (BitVec.eq_of_toNat_eq h.symm)
  exact (if_neg hr).trans (Vector.getElem_set_ne (by omega) r.isLt hne)

end Sys2Proof.Proofs

/-! SUPPORT. The results of 40_alu_arith_logic.md, 41_alu_shift.md and 42_alu_muldiv.md that are signed numbers, comparisons or 64
bits wide. -/

namespace Sys2Proof.Machine

open Sys2Proof.Spec

/-! ## The meaning of each instruction -/

section AluMeanings

variable (rs rt rd : RegIdx) (imm : BitVec 16) (sa : BitVec 5) (s : State)

theorem exec_nor : exec (.nor rs rt rd) s = retire rd (~~~(s.gpr rs ||| s.gpr rt)) s := rfl
theorem exec_slt : exec (.slt rs rt rd) s = retire rd (boolWord (lessSigned (s.gpr rs) (s.gpr rt))) s := rfl
theorem exec_sltu : exec (.sltu rs rt rd) s = retire rd (boolWord (lessUnsigned (s.gpr rs) (s.gpr rt))) s := rfl
theorem exec_slti : exec (.slti rs rt imm) s = retire rt (boolWord (lessSigned (s.gpr rs) (sext16 imm))) s := rfl
theorem exec_sltiu : exec (.sltiu rs rt imm) s = retire rt (boolWord (lessUnsigned (s.gpr rs) (sext16 imm))) s := rfl
theorem exec_srl : exec (.srl rt rd sa) s = retire rd (s.gpr rt >>> sa.toNat) s := rfl
theorem exec_srlv : exec (.srlv rs rt rd) s = retire rd (s.gpr rt >>> (shiftAmount (s.gpr rs)).toNat) s := rfl
theorem exec_sra : exec (.sra rt rd sa) s = retire rd ((s.gpr rt).sshiftRight sa.toNat) s := rfl
theorem exec_srav : exec (.srav rs rt rd) s = retire rd ((s.gpr rt).sshiftRight (shiftAmount (s.gpr rs)).toNat) s := rfl
theorem exec_mul : exec (.mul rs rt rd) s = retire rd (s.gpr rs * s.gpr rt) s := rfl
theorem exec_mult : exec (.mult rs rt) s = .next (s.setHiLo (productSigned (s.gpr rs) (s.gpr rt))).advance := rfl
theorem exec_multu : exec (.multu rs rt) s = .next (s.setHiLo (productUnsigned (s.gpr rs) (s.gpr rt))).advance := rfl
theorem exec_maddu :
    exec (.maddu rs rt) s = .next (s.setHiLo (s.hiLo + productUnsigned (s.gpr rs) (s.gpr rt))).advance := rfl
theorem exec_msubu :
    exec (.msubu rs rt) s = .next (s.setHiLo (s.hiLo - productUnsigned (s.gpr rs) (s.gpr rt))).advance := rfl

end AluMeanings

/-! ## Signed sums and differences (R121, R123, R125) -/

theorem add_eq_ofInt_toInt (a b : Word) : a + b = BitVec.ofInt 32 (a.toInt + b.toInt) := by
  rw [BitVec.ofInt_add, BitVec.ofInt_toInt, BitVec.ofInt_toInt]

theorem sub_eq_ofInt_toInt (a b : Word) : a - b = BitVec.ofInt 32 (a.toInt - b.toInt) := by
  rw [Int.sub_eq_add_neg, BitVec.ofInt_add, BitVec.ofInt_neg, BitVec.ofInt_toInt, BitVec.ofInt_toInt,
    BitVec.sub_eq_add_neg]

theorem toInt_sext16 (imm : BitVec 16) : (sext16 imm).toInt = imm.toInt :=
  BitVec.toInt_signExtend_of_le (by omega)

/-! ## Comparisons (R127 to R130) -/

theorem boolWord_decide (P : Prop) [Decidable P] : boolWord (decide P) = if P then 1 else 0 := by
  simp only [boolWord, decide_eq_true_eq]

theorem boolWord_lessSigned (a b : Word) : boolWord (lessSigned a b) = if a.toInt < b.toInt then 1 else 0 :=
  boolWord_decide _

theorem boolWord_lessUnsigned (a b : Word) : boolWord (lessUnsigned a b) = if a.toNat < b.toNat then 1 else 0 :=
  boolWord_decide _

/-- R130: as a natural number, a sign-extended immediate is itself or lies in the top 2^15 words. -/
theorem toNat_sext16 (imm : BitVec 16) :
    (sext16 imm).toNat = if imm.toNat < 0x8000 then imm.toNat else imm.toNat + 0xFFFF0000 := by
  have himm := imm.isLt
  rw [sext16, BitVec.toNat_signExtend, BitVec.toNat_setWidth, Nat.mod_eq_of_lt (by omega), BitVec.msb_eq_decide]
  by_cases hneg : imm.toNat < 0x8000
  · simp [hneg]
  · simp [hneg, Nat.le_of_not_lt hneg]

/-! ## Right shifts (R159) -/

theorem ushiftRight_eq_ofNat (v : Word) (n : Nat) : v >>> n = BitVec.ofNat 32 (v.toNat / 2 ^ n) := by
  apply BitVec.eq_of_toNat_eq
  have hle := Nat.div_le_self v.toNat (2 ^ n)
  have hlt := v.isLt
  rw [BitVec.toNat_ushiftRight, Nat.shiftRight_eq_div_pow, BitVec.toNat_ofNat, Nat.mod_eq_of_lt (by omega)]

theorem toInt_sshiftRight_eq_div (v : Word) (n : Nat) : (v.sshiftRight n).toInt = v.toInt / 2 ^ n := by
  rw [BitVec.toInt_sshiftRight, Int.shiftRight_eq_div_pow]
  norm_cast

/-! ## Products (R166 to R168, R176) -/

theorem toInt_productSigned (a b : Word) : (productSigned a b).toInt = a.toInt * b.toInt := by
  have hlow : -(2 ^ 62) ≤ a.toInt * b.toInt := BitVec.le_toInt_mul_toInt
  have hhigh : a.toInt * b.toInt ≤ 2 ^ 62 := BitVec.toInt_mul_toInt_le
  exact BitVec.toInt_ofInt_eq_self (by omega) (by omega) (by omega)

theorem toNat_productUnsigned (a b : Word) : (productUnsigned a b).toNat = a.toNat * b.toNat := by
  have hlt : a.toNat * b.toNat < 2 ^ 64 := BitVec.toNat_mul_toNat_lt
  rw [productUnsigned, BitVec.toNat_ofNat, Nat.mod_eq_of_lt hlt]

theorem mul_eq_ofInt (a b : Word) : a * b = BitVec.ofInt 32 (a.toInt * b.toInt) := by
  rw [BitVec.ofInt_mul, BitVec.ofInt_toInt, BitVec.ofInt_toInt]

/-- R168: the low word does not depend on the reading of the operands. -/
theorem ofInt_mul_eq_ofNat_mul (a b : Word) :
    BitVec.ofInt 32 (a.toInt * b.toInt) = BitVec.ofNat 32 (a.toNat * b.toNat) := by
  rw [← mul_eq_ofInt, BitVec.ofNat_mul, BitVec.ofNat_toNat, BitVec.ofNat_toNat, BitVec.setWidth_eq, BitVec.setWidth_eq]

/-! ## `hi` and `lo` as one value (R15) -/

theorem hiLo_toNat (s : State) : s.hiLo.toNat = s.hi.toNat * 2 ^ 32 + s.lo.toNat := by
  rw [State.hiLo, BitVec.toNat_append, ← Nat.shiftLeft_add_eq_or_of_lt s.lo.isLt, Nat.shiftLeft_eq]

/-- An instruction that ends by writing a 64-bit value completes, and does nothing else. -/
theorem exists_setHiLo_writesHiLo {P : BitVec 64 → Prop} {v : BitVec 64} (hv : P v) (s : State) :
    ∃ t h l, (Host.Outcome.next (s.setHiLo v).advance : Res State) = .next t ∧ WritesHiLo h l s t ∧ t.draws = s.draws
      ∧ P (h ++ l) := by
  refine ⟨_, v.extractLsb' 32 32, v.extractLsb' 0 32, rfl, writesHiLo_advance_setHi_setLo _ _ s, rfl, ?_⟩
  rwa [BitVec.extractLsb'_append_extractLsb']

theorem hiLo_add_eq_ofNat (s : State) (a b : Word) :
    s.hiLo + productUnsigned a b = BitVec.ofNat 64 (s.hi.toNat * 2 ^ 32 + s.lo.toNat + a.toNat * b.toNat) := by
  rw [← hiLo_toNat, BitVec.ofNat_add, BitVec.ofNat_toNat, BitVec.setWidth_eq, productUnsigned]

theorem hiLo_sub_eq_ofInt (s : State) (a b : Word) :
    s.hiLo - productUnsigned a b = BitVec.ofInt 64 (s.hi.toNat * 2 ^ 32 + s.lo.toNat - a.toNat * b.toNat) := by
  have hhiLo : (s.hi.toNat * 2 ^ 32 + s.lo.toNat : Int) = s.hiLo.toNat := by rw [hiLo_toNat]; norm_cast
  have hproduct : (a.toNat * b.toNat : Int) = (a.toNat * b.toNat : Nat) := by norm_cast
  rw [hhiLo, hproduct, Int.sub_eq_add_neg, BitVec.ofInt_add, BitVec.ofInt_neg, BitVec.ofInt_natCast, BitVec.ofInt_natCast,
    BitVec.ofNat_toNat, BitVec.setWidth_eq, BitVec.sub_eq_add_neg, productUnsigned]

/-! ## Quotients and remainders (R169, R170) -/

/-- R169: the quotient is the signed one of the library, also where it does not fit. -/
theorem ofInt_tdiv_eq_sdiv (a b : Word) : BitVec.ofInt 32 (a.toInt.tdiv b.toInt) = a.sdiv b := by
  apply BitVec.eq_of_toInt_eq
  rw [BitVec.toInt_ofInt, BitVec.toInt_sdiv]

theorem ofInt_sub_tdiv_mul_eq_srem (a b : Word) :
    BitVec.ofInt 32 (a.toInt - a.toInt.tdiv b.toInt * b.toInt) = a.srem b := by
  rw [Int.mul_comm, ← Int.tmod_def, ← BitVec.toInt_srem, BitVec.ofInt_toInt]

/-- The remainder is smaller than the divisor and has the sign of the dividend. -/
theorem srem_bounds (a : Word) {b : Word} (hb : b ≠ 0) :
    (a.srem b).toInt.natAbs < b.toInt.natAbs ∧ (0 ≤ a.toInt → 0 ≤ (a.srem b).toInt)
      ∧ (a.toInt ≤ 0 → (a.srem b).toInt ≤ 0) := by
  have hpos : 0 < b.toInt.natAbs := Int.natAbs_pos.mpr fun hzero => hb (BitVec.eq_of_toInt_eq hzero)
  rw [BitVec.toInt_srem, Int.natAbs_tmod]
  refine ⟨Nat.mod_lt _ hpos, Int.tmod_nonneg _, fun hneg => ?_⟩
  have hopposite := Int.tmod_nonneg b.toInt (Int.neg_nonneg.mpr hneg)
  rw [Int.neg_tmod] at hopposite
  omega

theorem sdiv_mul_add_srem {a b : Word} (h : ¬(a = 0x80000000 ∧ b = 0xFFFFFFFF)) :
    (a.sdiv b).toInt * b.toInt + (a.srem b).toInt = a.toInt := by
  have hfits : a ≠ BitVec.intMin 32 ∨ b ≠ -1#32 := Classical.not_and_iff_not_or_not.mp h
  rw [BitVec.toInt_sdiv_of_ne_or_ne a b hfits, BitVec.toInt_srem, Int.tdiv_mul_add_tmod]

end Sys2Proof.Machine

/-! CERTIFICATE. The statements of 40_alu_arith_logic.md, 41_alu_shift.md and 42_alu_muldiv.md that rest on decisions of the spec. -/

namespace Sys2Proof.Proofs

open Sys2Proof.Machine Sys2Proof.Spec

/-- Settles O2: each is `retire` of the signed sum or difference modulo 2^32. -/
theorem addAddiSubNeverTrap : Obligations.AddAddiSubNeverTrap := by
  refine ⟨fun rs rt rd s => ?_, fun rs rt rd s => ?_, fun rs rt imm s => ?_⟩
  · rw [exec_add, add_eq_ofInt_toInt]; exact exists_retire_writesReg rd _ s
  · rw [exec_sub, sub_eq_ofInt_toInt]; exact exists_retire_writesReg rd _ s
  · rw [exec_addi, add_eq_ofInt_toInt, toInt_sext16]; exact exists_retire_writesReg rt _ s

/-- Settles O4, bit by bit. -/
theorem norComplementsTheDisjunction : Obligations.NorComplementsTheDisjunction := by
  intro rs rt rd s
  rw [exec_nor]
  exact exists_retire_writesReg_of (fun i hi => by rw [BitVec.getLsbD_not, BitVec.getLsbD_or]; simp [hi]) rd s

/-- Settles O5: each is `retire` of the comparison it names, and a sign-extended immediate is the number stated in either reading. -/
theorem setOnLessThanComparesExactly : Obligations.SetOnLessThanComparesExactly := by
  refine ⟨fun rs rt rd s => ⟨?_, ?_⟩, fun rs rt imm s => ⟨?_, ?_⟩⟩
  · rw [exec_slt, boolWord_lessSigned]; exact exists_retire_writesReg rd _ s
  · rw [exec_sltu, boolWord_lessUnsigned]; exact exists_retire_writesReg rd _ s
  · rw [exec_slti, boolWord_lessSigned, toInt_sext16]; exact exists_retire_writesReg rt _ s
  · rw [exec_sltiu, boolWord_lessUnsigned, toNat_sext16]; exact exists_retire_writesReg rt _ s

/-- Settles O8: each is `retire` of the shifted value, which the shift laws of R159 say is the quotient. -/
theorem shiftRightDivides : Obligations.ShiftRightDivides := by
  refine ⟨fun rt rd sa s => ⟨?_, ?_⟩, fun rs rt rd s => ⟨?_, ?_⟩⟩
  · rw [exec_srl, ushiftRight_eq_ofNat]; exact exists_retire_writesReg rd _ s
  · rw [exec_sra]; exact exists_retire_writesReg_of (toInt_sshiftRight_eq_div _ _) rd s
  · rw [exec_srlv, ushiftRight_eq_ofNat, toNat_shiftAmount]; exact exists_retire_writesReg rd _ s
  · rw [exec_srav, toNat_shiftAmount]; exact exists_retire_writesReg_of (toInt_sshiftRight_eq_div _ _) rd s

/-- Settles O9: a product of two words fits in 64 bits, and its low word is the product modulo 2^32 in either reading. -/
theorem multiplyIsExact : Obligations.MultiplyIsExact := by
  refine ⟨fun rs rt s => ⟨?_, ?_⟩, fun rs rt rd s => ?_⟩
  · rw [exec_mult]
    exact exists_setHiLo_writesHiLo (P := fun v => v.toInt = _) (toInt_productSigned (s.gpr rs) (s.gpr rt)) s
  · rw [exec_multu]
    exact exists_setHiLo_writesHiLo (P := fun v => v.toNat = _) (toNat_productUnsigned (s.gpr rs) (s.gpr rt)) s
  · rw [exec_mul]
    obtain ⟨t, hnext, hwrites⟩ := exists_retire_writesReg rd (s.gpr rs * s.gpr rt) s
    rw [mul_eq_ofInt] at hwrites
    exact ⟨t, hnext, hwrites, ofInt_mul_eq_ofNat_mul (s.gpr rs) (s.gpr rt)⟩

/-- Settles O10: `hi || lo` is the number `hi * 2^32 + lo`, and 64-bit sums and differences are those of the numbers modulo 2^64. -/
theorem multiplyAccumulateWraps : Obligations.MultiplyAccumulateWraps := by
  intro rs rt s
  refine ⟨?_, ?_⟩
  · rw [exec_maddu]
    exact exists_setHiLo_writesHiLo (P := fun v => v = _) (hiLo_add_eq_ofNat s (s.gpr rs) (s.gpr rt)) s
  · rw [exec_msubu]
    exact exists_setHiLo_writesHiLo (P := fun v => v = _) (hiLo_sub_eq_ofInt s (s.gpr rs) (s.gpr rt)) s

/-- Settles O12: DIVU leaves quotient and remainder of the natural numbers, DIV those of the library's signed division, which
fail to fit for -2^31 by -1 alone. -/
theorem divideByNonzero : Obligations.DivideByNonzero := by
  refine ⟨fun rs rt s hrt => ?_, fun rs rt s hrt => ?_⟩
  · have hpos : 0 < (s.gpr rt).toNat := Nat.pos_of_ne_zero fun hzero => hrt (BitVec.eq_of_toNat_eq hzero)
    have hquotient : (s.gpr rs).toNat / (s.gpr rt).toNat < 2 ^ 32 :=
      Nat.lt_of_le_of_lt (Nat.div_le_self _ _) (s.gpr rs).isLt
    have hremainder : (s.gpr rs).toNat % (s.gpr rt).toNat < 2 ^ 32 :=
      Nat.lt_trans (Nat.mod_lt _ hpos) (s.gpr rt).isLt
    refine ⟨_, _, _, exec_divu_of_ne_zero rs hrt, writesHiLo_advance_setHi_setLo _ _ s, rfl, ?_, ?_⟩
    · rw [BitVec.toNat_ofNat, BitVec.toNat_ofNat, Nat.mod_eq_of_lt hquotient, Nat.mod_eq_of_lt hremainder]
      exact Nat.div_add_mod' _ _
    · rw [BitVec.toNat_ofNat, Nat.mod_eq_of_lt hremainder]
      exact Nat.mod_lt _ hpos
  · have hexec := exec_div_of_ne_zero rs hrt
    rw [ofInt_sub_tdiv_mul_eq_srem, ofInt_tdiv_eq_sdiv] at hexec
    refine ⟨_, _, _, hexec, writesHiLo_advance_setHi_setLo _ _ s, rfl, ?_⟩
    split
    · rename_i hoverflow
      rw [hoverflow.1, hoverflow.2]
      decide
    · rename_i hfits
      exact ⟨sdiv_mul_add_srem hfits, srem_bounds _ hrt⟩

/-- Settles O13, by cases of `DIV_BY_ZERO`. -/
theorem divideByZeroTakesTheParameter : Obligations.DivideByZeroTakesTheParameter := by
  intro rs rt s hzero
  refine ⟨⟨_, exec_div_of_eq_zero rs hzero, fun h l hvalues => ?_, fun hdraw => ?_⟩, ?_⟩
  · rw [divideByZero_eq, hvalues]
    exact ⟨writesHiLo_advance_setHi_setLo h l s, rfl⟩
  · rw [divideByZero_eq, hdraw]
    exact ⟨writesHiLo_advance_setHi_setLo _ _ s, rfl⟩
  · rw [exec_divu_of_eq_zero rs hzero, exec_div_of_eq_zero rs hzero]

end Sys2Proof.Proofs

/-! SUPPORT. What an access of several bytes does: the value it reads in the machine's byte order (20_memory.md R53, R56), and the
aligned word around an address (43_load_store.md R195). -/

namespace Sys2Proof.Machine

open Sys2Proof.Spec

/-! ## Validity of several bytes -/

theorem validRange_iff {s : State} {kind : AccessKind} {start : Word} {n : Nat} :
    s.validRange kind start n = true ↔ ValidBytes s kind start n := validRange_eq_true

theorem validRange_eq_false_iff {s : State} {kind : AccessKind} {start : Word} {n : Nat} :
    s.validRange kind start n = false ↔ ¬ValidBytes s kind start n := by
  rw [← validRange_iff, Bool.not_eq_true]

/-! ## Reading bytes with values -/

/-- R56: valid bytes with values are read, in the byte order of the machine. -/
theorem loadLanes_of_byteAt {s : State} {kind : AccessKind} {start : Word} (addr : Word) {bs : List Byte} {n : Nat}
    (hlen : bs.length = n) (hvalid : ValidBytes s kind start n)
    (hbytes : ∀ (i : Nat) (hi : i < bs.length), ByteAt s start i bs[i]) :
    loadLanes s kind addr start n = .next (arrange s.par.byteOrder bs) := by
  subst hlen
  rw [loadLanes_eq_next, arrange_arrange, readBytes_eq_next]
  refine ⟨validRange_iff.mpr hvalid, rfl, fun i hi => ?_⟩
  rw [List.getElem?_eq_getElem hi]
  exact hbytes i hi

theorem memRead_of_byteAt {s : State} {kind : AccessKind} {addr : Word} {bs : List Byte} {n : Nat} (hlen : bs.length = n)
    (haligned : addr.toNat % n = 0) (hvalid : ValidBytes s kind addr n)
    (hbytes : ∀ (i : Nat) (hi : i < bs.length), ByteAt s addr i bs[i]) :
    memRead s kind addr n = .next (ofLanes (arrange s.par.byteOrder bs)) :=
  memRead_eq_next.mpr ⟨haligned, _, loadLanes_of_byteAt addr hlen hvalid hbytes, rfl⟩

/-- R53: the two bytes at an address, put in order, are the halfword there. -/
theorem ofLanes_arrange_two (order : ByteOrder) (b0 b1 : Byte) :
    ofLanes (arrange order [b0, b1]) = (halfword order b0 b1).setWidth 32 := by
  have happend : ∀ c0 c1 : Byte, ofLanes [c0, c1] = (c1 ++ c0 : BitVec 16).setWidth 32 := by
    intro c0 c1
    apply BitVec.eq_of_getLsbD_eq
    intro i hi
    rw [BitVec.getLsbD_setWidth, BitVec.getLsbD_append, getLsbD_ofLanes_cons _ _ hi]
    simp only [hi, decide_true, Bool.true_and]
    split
    · rfl
    · rw [ofLanes_singleton, BitVec.getLsbD_setWidth, decide_eq_true (by omega : i - 8 < 32), Bool.true_and]
  cases order <;> exact happend _ _

section Reads

variable {s : State} {kind : AccessKind} {a : Word} {b0 b1 b2 b3 : Byte}

theorem memRead_two (haligned : a.toNat % 2 = 0) (hvalid : ValidBytes s kind a 2) (h0 : ByteAt s a 0 b0)
    (h1 : ByteAt s a 1 b1) : memRead s kind a 2 = .next ((halfword s.par.byteOrder b0 b1).setWidth 32) := by
  rw [← ofLanes_arrange_two]
  refine memRead_of_byteAt (bs := [b0, b1]) rfl haligned hvalid fun i hi => ?_
  match i, hi with
  | 0, _ => exact h0
  | 1, _ => exact h1

theorem memRead_four (haligned : a.toNat % 4 = 0) (hvalid : ValidBytes s kind a 4) (h0 : ByteAt s a 0 b0)
    (h1 : ByteAt s a 1 b1) (h2 : ByteAt s a 2 b2) (h3 : ByteAt s a 3 b3) :
    memRead s kind a 4 = .next (word s.par.byteOrder b0 b1 b2 b3) := by
  rw [← ofLanes_arrange_four]
  refine memRead_of_byteAt (bs := [b0, b1, b2, b3]) rfl haligned hvalid fun i hi => ?_
  match i, hi with
  | 0, _ => exact h0
  | 1, _ => exact h1
  | 2, _ => exact h2
  | 3, _ => exact h3

end Reads

theorem sextHalf_setWidth (h : BitVec 16) : sextHalf (h.setWidth 32) = BitVec.ofInt 32 h.toInt := by
  have hlow : (h.setWidth 32).extractLsb' 0 16 = h := by
    rw [← BitVec.setWidth_eq_extractLsb' (by omega), BitVec.setWidth_setWidth_of_le h (by omega), BitVec.setWidth_eq]
  rw [sextHalf, hlow]; rfl

/-! ## The meaning of each access -/

section AccessMeanings

variable (base rt : RegIdx) (offset : BitVec 16) (s : State)

theorem exec_lh : exec (.lh base rt offset) s = loadWith sextHalf 2 base rt offset s := rfl
theorem exec_lhu : exec (.lhu base rt offset) s = loadWith id 2 base rt offset s := rfl
theorem exec_lw : exec (.lw base rt offset) s = loadWith id 4 base rt offset s := rfl
theorem exec_sh : exec (.sh base rt offset) s = storeLow 2 base rt offset s := rfl
theorem exec_sw : exec (.sw base rt offset) s = storeLow 4 base rt offset s := rfl

end AccessMeanings

theorem exists_loadWith_writesReg {g : Word → Word} {n : Nat} {base : RegIdx} (rt : RegIdx) {offset : BitVec 16} {s : State}
    {v : Word} (hread : memRead s .load (effAddr s base offset) n = .next v) :
    ∃ t, loadWith g n base rt offset s = .next t ∧ WritesReg rt (g v) s t := by
  rw [loadWith, hread, andThen_next]
  exact exists_retire_writesReg rt (g v) s

/-! ## The aligned word and the place in it (R195) -/

theorem byteIndex_eq_lowBits (a : Word) : byteIndex a = lowBits a := by
  rw [byteIndex, BitVec.extractLsb'_toNat, Nat.shiftRight_zero, lowBits]

theorem lowBits_lt (a : Word) : lowBits a < 4 := Nat.mod_lt _ (by omega)

theorem alignedWord_eq_shift (a : Word) : alignedWord a = a >>> 2 <<< 2 := by
  have hmask : ∀ i < 32, (0xFFFFFFFC : Word).getLsbD i = decide (2 ≤ i) := by decide
  apply BitVec.eq_of_getLsbD_eq
  intro i hi
  rw [alignedWord, BitVec.getLsbD_and, hmask i hi, BitVec.getLsbD_shiftLeft, BitVec.getLsbD_ushiftRight]
  by_cases hlow : i < 2
  · simp [hlow]
  · simp [hlow, hi, Nat.add_sub_cancel' (Nat.le_of_not_lt hlow), Nat.le_of_not_lt hlow]

theorem toNat_alignedWord (a : Word) : (alignedWord a).toNat = a.toNat - lowBits a := by
  have ha := a.isLt
  rw [alignedWord_eq_shift, BitVec.toNat_shiftLeft, BitVec.toNat_ushiftRight, Nat.shiftLeft_eq, Nat.shiftRight_eq_div_pow,
    lowBits]
  omega

theorem alignedWord_add_lowBits (a : Word) : alignedWord a + BitVec.ofNat 32 (lowBits a) = a := by
  apply BitVec.eq_of_toNat_eq
  have ha := a.isLt
  have hlow : lowBits a ≤ a.toNat := Nat.mod_le _ _
  have hfour := lowBits_lt a
  rw [BitVec.toNat_add, toNat_alignedWord, BitVec.toNat_ofNat]
  omega

theorem lowerSpan_eq (a : Word) : lowerSpan a = ⟨alignedWord a, lowBits a + 1⟩ := by
  rw [lowerSpan, byteIndex_eq_lowBits]

theorem upperSpan_eq (a : Word) : upperSpan a = ⟨a, 4 - lowBits a⟩ := by
  rw [upperSpan, byteIndex_eq_lowBits]

end Sys2Proof.Machine

/-! SUPPORT. What LWL, LWR, SWL, SWR and the aligned stores do (43_load_store.md R195 to R206): the bytes moved, lane by lane. -/

namespace Sys2Proof.Machine

open Sys2Proof.Spec

/-! ## The meaning of the unaligned accesses, by byte order -/

section UnalignedMeanings

variable (base rt : RegIdx) (offset : BitVec 16) {s : State}

theorem exec_lwl_of_little (h : s.par.byteOrder = .little) :
    exec (.lwl base rt offset) s
      = andThen (loadLanes s .load (effAddr s base offset) (alignedWord (effAddr s base offset))
          (lowBits (effAddr s base offset) + 1)) fun lanes => retire rt (mergeLeft (s.gpr rt) lanes) s := by
  change execLwl base rt offset s = _
  simp only [execLwl, leftSpan, h, lowerSpan_eq]

theorem exec_lwl_of_big (h : s.par.byteOrder = .big) :
    exec (.lwl base rt offset) s
      = andThen (loadLanes s .load (effAddr s base offset) (effAddr s base offset)
          (4 - lowBits (effAddr s base offset))) fun lanes => retire rt (mergeLeft (s.gpr rt) lanes) s := by
  change execLwl base rt offset s = _
  simp only [execLwl, leftSpan, h, upperSpan_eq]

theorem exec_lwr_of_little (h : s.par.byteOrder = .little) :
    exec (.lwr base rt offset) s
      = andThen (loadLanes s .load (effAddr s base offset) (effAddr s base offset)
          (4 - lowBits (effAddr s base offset))) fun lanes => retire rt (mergeRight (s.gpr rt) lanes) s := by
  change execLwr base rt offset s = _
  simp only [execLwr, rightSpan, h, upperSpan_eq]

theorem exec_lwr_of_big (h : s.par.byteOrder = .big) :
    exec (.lwr base rt offset) s
      = andThen (loadLanes s .load (effAddr s base offset) (alignedWord (effAddr s base offset))
          (lowBits (effAddr s base offset) + 1)) fun lanes => retire rt (mergeRight (s.gpr rt) lanes) s := by
  change execLwr base rt offset s = _
  simp only [execLwr, rightSpan, h, lowerSpan_eq]

theorem exec_swl_of_little (h : s.par.byteOrder = .little) :
    exec (.swl base rt offset) s
      = andThen (storeLanes s (effAddr s base offset) (alignedWord (effAddr s base offset))
          ((toLanes (s.gpr rt)).drop (4 - (lowBits (effAddr s base offset) + 1)))) fun t => .next t.advance := by
  change execSwl base rt offset s = _
  simp only [execSwl, leftSpan, h, lowerSpan_eq]

theorem exec_swl_of_big (h : s.par.byteOrder = .big) :
    exec (.swl base rt offset) s
      = andThen (storeLanes s (effAddr s base offset) (effAddr s base offset)
          ((toLanes (s.gpr rt)).drop (4 - (4 - lowBits (effAddr s base offset))))) fun t => .next t.advance := by
  change execSwl base rt offset s = _
  simp only [execSwl, leftSpan, h, upperSpan_eq]

theorem exec_swr_of_little (h : s.par.byteOrder = .little) :
    exec (.swr base rt offset) s
      = andThen (storeLanes s (effAddr s base offset) (effAddr s base offset)
          ((toLanes (s.gpr rt)).take (4 - lowBits (effAddr s base offset)))) fun t => .next t.advance := by
  change execSwr base rt offset s = _
  simp only [execSwr, rightSpan, h, upperSpan_eq]

theorem exec_swr_of_big (h : s.par.byteOrder = .big) :
    exec (.swr base rt offset) s
      = andThen (storeLanes s (effAddr s base offset) (alignedWord (effAddr s base offset))
          ((toLanes (s.gpr rt)).take (lowBits (effAddr s base offset) + 1))) fun t => .next t.advance := by
  change execSwr base rt offset s = _
  simp only [execSwr, rightSpan, h, lowerSpan_eq]

end UnalignedMeanings

/-! ## Lanes in the byte order of the machine -/

/-- Which lane of `n` stands at place `i` (R53); of a place, the same number is the place of that lane. -/
def laneIndex (order : ByteOrder) (n i : Nat) : Nat :=
  match order with
  | .little => i
  | .big => n - 1 - i

theorem laneIndex_lt (order : ByteOrder) {n i : Nat} (hi : i < n) : laneIndex order n i < n := by
  cases order with
  | little => exact hi
  | big => exact (by omega : n - 1 - i < n)

theorem getElem_arrange {order : ByteOrder} {bs : List Byte} {i : Nat} (hi : i < (arrange order bs).length) :
    (arrange order bs)[i] = bs[laneIndex order bs.length i]'(laneIndex_lt order (by simpa using hi)) := by
  cases order with
  | little => rfl
  | big => exact List.getElem_reverse hi

theorem storedByte_eq (order : ByteOrder) (n : Nat) (v : Word) (i : Nat) :
    storedByte order n v i = byteOf v (laneIndex order n i) := by
  cases order <;> rfl

/-- The `n` bytes `m 0`, `m 1`, … -/
def firstBytes (m : Nat → Byte) (n : Nat) : List Byte := (List.range n).map m

@[simp] theorem length_firstBytes (m : Nat → Byte) (n : Nat) : (firstBytes m n).length = n := by
  simp [firstBytes]

@[simp] theorem getElem_firstBytes (m : Nat → Byte) {n i : Nat} (hi : i < (firstBytes m n).length) :
    (firstBytes m n)[i] = m i := by
  simp [firstBytes]

theorem getElem_arrange_firstBytes (order : ByteOrder) (m : Nat → Byte) {n i : Nat}
    (hi : i < (arrange order (firstBytes m n)).length) :
    (arrange order (firstBytes m n))[i] = m (laneIndex order n i) := by
  rw [getElem_arrange, getElem_firstBytes, length_firstBytes]

/-- R196: LWL replaces the most significant bytes. -/
theorem byteOf_mergeLeft (old : Word) {lanes : List Byte} (hlen : lanes.length ≤ 4) {k : Nat} (hk : k < 4) :
    byteOf (mergeLeft old lanes) k
      = if h : 4 - lanes.length ≤ k then lanes[k - (4 - lanes.length)] else byteOf old k := by
  have hkept : ((toLanes old).take (4 - lanes.length)).length = 4 - lanes.length := by
    rw [List.length_take, toLanes_length]; omega
  rw [mergeLeft, byteOf_ofLanes hk (by rw [List.length_append, hkept]; omega), List.getElem_append]
  simp only [hkept]
  by_cases hnew : 4 - lanes.length ≤ k
  · rw [dif_neg (by omega), dif_pos hnew]
  · rw [dif_pos (by omega), dif_neg hnew, List.getElem_take, getElem_toLanes]

/-- R197: LWR replaces the least significant bytes. -/
theorem byteOf_mergeRight (old : Word) {lanes : List Byte} (hlen : lanes.length ≤ 4) {k : Nat} (hk : k < 4) :
    byteOf (mergeRight old lanes) k = if h : k < lanes.length then lanes[k] else byteOf old k := by
  have hkept : ((toLanes old).drop lanes.length).length = 4 - lanes.length := by
    rw [List.length_drop, toLanes_length]
  rw [mergeRight, byteOf_ofLanes hk (by rw [List.length_append, hkept]; omega), List.getElem_append]
  by_cases hnew : k < lanes.length
  · rw [dif_pos hnew, dif_pos hnew]
  · rw [dif_neg hnew, dif_neg hnew, List.getElem_drop, getElem_toLanes]
    congr 1; omega

/-! ## Loading some bytes into a register -/

/-- An unaligned load of valid bytes with values writes what `f` makes of them to the register, and does nothing else. -/
theorem exists_loadLanes_writesReg {s : State} {start : Word} {m : Nat → Byte} {n : Nat} (addr : Word) (rt : RegIdx)
    (f : List Byte → Word)
    (h : ∀ i < n, Params.valid s.par .load (start + BitVec.ofNat 32 i) = true ∧ ByteAt s start i (m i)) :
    ∃ t, andThen (loadLanes s .load addr start n) (fun lanes => retire rt (f lanes) s) = .next t
      ∧ WritesReg rt (f (arrange s.par.byteOrder (firstBytes m n))) s t := by
  have hload : loadLanes s .load addr start n = .next (arrange s.par.byteOrder (firstBytes m n)) := by
    refine loadLanes_of_byteAt addr (length_firstBytes m n) (fun i hi => (h i hi).1) fun i hi => ?_
    rw [getElem_firstBytes]
    exact (h i (by simpa using hi)).2
  rw [hload, andThen_next]
  exact exists_retire_writesReg rt _ s

/-- R196: byte `k` after LWL has loaded the `n` bytes of `m`. -/
theorem byteOf_mergeLeft_firstBytes (order : ByteOrder) (old : Word) (m : Nat → Byte) {n k : Nat} (hn : n ≤ 4) (hk : k < 4) :
    byteOf (mergeLeft old (arrange order (firstBytes m n))) k
      = if 4 - n ≤ k then m (laneIndex order n (k - (4 - n))) else byteOf old k := by
  have hlen : (arrange order (firstBytes m n)).length = n := by rw [arrange_length, length_firstBytes]
  rw [byteOf_mergeLeft old (by omega) hk]
  simp only [getElem_arrange_firstBytes, hlen, dite_eq_ite]

/-- R197: byte `k` after LWR has loaded the `n` bytes of `m`. -/
theorem byteOf_mergeRight_firstBytes (order : ByteOrder) (old : Word) (m : Nat → Byte) {n k : Nat} (hn : n ≤ 4) (hk : k < 4) :
    byteOf (mergeRight old (arrange order (firstBytes m n))) k
      = if k < n then m (laneIndex order n k) else byteOf old k := by
  have hlen : (arrange order (firstBytes m n)).length = n := by rw [arrange_length, length_firstBytes]
  rw [byteOf_mergeRight old (by omega) hk]
  simp only [getElem_arrange_firstBytes, hlen, dite_eq_ite]

theorem alignedWord_add_lowBits_add (a : Word) (j : Nat) :
    alignedWord a + BitVec.ofNat 32 (lowBits a + j) = a + BitVec.ofNat 32 j := by
  rw [BitVec.ofNat_add, ← BitVec.add_assoc, alignedWord_add_lowBits]

/-- The bytes from an address to the end of its aligned word, by their places in that word. -/
theorem byteAt_upper {s : State} {addr : Word} {m : Nat → Byte}
    (h : ∀ i < 4, lowBits addr ≤ i → Params.valid s.par .load (alignedWord addr + BitVec.ofNat 32 i) = true
      ∧ ByteAt s (alignedWord addr) i (m i)) :
    ∀ j < 4 - lowBits addr, Params.valid s.par .load (addr + BitVec.ofNat 32 j) = true
      ∧ ByteAt s addr j (m (lowBits addr + j)) := by
  intro j hj
  have hbyte := h (lowBits addr + j) (by omega) (by omega)
  rwa [ByteAt, alignedWord_add_lowBits_add] at hbyte

/-! ## Storing some lanes -/

/-- A store of lanes at valid bytes puts them there in the byte order of the machine, advances, and does nothing else. -/
theorem exists_storeLanes_stores {s : State} {start : Word} {lanes : List Byte} {f : Nat → Byte} {n : Nat} (addr : Word)
    (hlen : lanes.length = n) (hn : n ≤ 4) (hvalid : ValidBytes s .store start n)
    (hf : ∀ (i : Nat) (hi : i < (arrange s.par.byteOrder lanes).length), (arrange s.par.byteOrder lanes)[i] = f i) :
    ∃ t, andThen (storeLanes s addr start lanes) (fun u => .next u.advance) = .next t ∧ Stores start n f s t := by
  subst hlen
  have hstore : storeLanes s addr start lanes = .next (s.storeBytes start (arrange s.par.byteOrder lanes)) :=
    storeLanes_eq_next.mpr ⟨validRange_iff.mpr hvalid, rfl⟩
  rw [hstore, andThen_next]
  have hstores := stores_advance_storeBytes s start (by rw [arrange_length]; omega) hf
  rw [arrange_length] at hstores
  exact ⟨_, rfl, hstores⟩

theorem length_take_toLanes (v : Word) {n : Nat} (hn : n ≤ 4) : ((toLanes v).take n).length = n := by
  rw [List.length_take, toLanes_length, Nat.min_eq_left hn]

theorem length_drop_toLanes (v : Word) {n : Nat} (hn : n ≤ 4) : ((toLanes v).drop (4 - n)).length = n := by
  rw [List.length_drop, toLanes_length]; omega

/-- R57: the low `n` bytes of a word in the byte order of the machine. -/
theorem getElem_arrange_take_toLanes (order : ByteOrder) (v : Word) {n : Nat} (hn : n ≤ 4) {i : Nat}
    (hi : i < (arrange order ((toLanes v).take n)).length) :
    (arrange order ((toLanes v).take n))[i] = byteOf v (laneIndex order n i) := by
  rw [getElem_arrange, List.getElem_take, getElem_toLanes, length_take_toLanes v hn]

/-- R205: the high `n` bytes of a word in the byte order of the machine. -/
theorem getElem_arrange_drop_toLanes (order : ByteOrder) (v : Word) {n : Nat} (hn : n ≤ 4) {i : Nat}
    (hi : i < (arrange order ((toLanes v).drop (4 - n))).length) :
    (arrange order ((toLanes v).drop (4 - n)))[i] = byteOf v (4 - n + laneIndex order n i) := by
  rw [getElem_arrange, List.getElem_drop, getElem_toLanes, length_drop_toLanes v hn]

theorem exists_storeLow_stores {n : Nat} (hn : n ≤ 4) {base rt : RegIdx} {offset : BitVec 16} {s : State}
    (haligned : (effAddr s base offset).toNat % n = 0) (hvalid : ValidBytes s .store (effAddr s base offset) n) :
    ∃ t, storeLow n base rt offset s = .next t
      ∧ Stores (effAddr s base offset) n (storedByte s.par.byteOrder n (s.gpr rt)) s t := by
  have hwrite : memWrite s (effAddr s base offset) n (s.gpr rt)
      = storeLanes s (effAddr s base offset) (effAddr s base offset) ((toLanes (s.gpr rt)).take n) := by
    simp only [memWrite, alignCheck, if_pos haligned, andThen_next]
  rw [storeLow, hwrite]
  refine exists_storeLanes_stores _ (length_take_toLanes _ hn) hn hvalid fun i hi => ?_
  rw [getElem_arrange_take_toLanes _ _ hn, storedByte_eq]

/-! ## LWL and LWR, by byte order -/

section UnalignedLoads

variable {base rt : RegIdx} {offset : BitVec 16} {s : State} {m : Nat → Byte} {addr : Word} (haddr : addr = effAddr s base offset)

include haddr

/-- The bytes `a` to `a + b` go to the most significant end, in their order. -/
theorem exists_lwl_of_little (horder : s.par.byteOrder = .little)
    (h : ∀ i ≤ lowBits addr, Params.valid s.par .load (alignedWord addr + BitVec.ofNat 32 i) = true
      ∧ ByteAt s (alignedWord addr) i (m i)) :
    ∃ t v, exec (.lwl base rt offset) s = .next t ∧ WritesReg rt v s t
      ∧ ∀ k < 4, byteOf v k = if 3 - lowBits addr ≤ k then m (k - (3 - lowBits addr)) else byteOf (s.gpr rt) k := by
  subst haddr
  have hlow := lowBits_lt (effAddr s base offset)
  obtain ⟨t, hnext, hwrites⟩ :=
    exists_loadLanes_writesReg (n := lowBits (effAddr s base offset) + 1) (effAddr s base offset) rt (mergeLeft (s.gpr rt))
      fun i hi => h i (Nat.le_of_lt_succ hi)
  rw [← exec_lwl_of_little base rt offset horder] at hnext
  refine ⟨t, _, hnext, hwrites, fun k hk => ?_⟩
  have hkept : 4 - (lowBits (effAddr s base offset) + 1) = 3 - lowBits (effAddr s base offset) := by omega
  rw [byteOf_mergeLeft_firstBytes _ _ _ (by omega) hk, hkept, horder]
  rfl

/-- The bytes `a + b` to `a + 3` go to the most significant end, against their order. -/
theorem exists_lwl_of_big (horder : s.par.byteOrder = .big)
    (h : ∀ i < 4, lowBits addr ≤ i → Params.valid s.par .load (alignedWord addr + BitVec.ofNat 32 i) = true
      ∧ ByteAt s (alignedWord addr) i (m i)) :
    ∃ t v, exec (.lwl base rt offset) s = .next t ∧ WritesReg rt v s t
      ∧ ∀ k < 4, byteOf v k = if lowBits addr ≤ k then m (lowBits addr + 3 - k) else byteOf (s.gpr rt) k := by
  subst haddr
  have hlow := lowBits_lt (effAddr s base offset)
  obtain ⟨t, hnext, hwrites⟩ := exists_loadLanes_writesReg (effAddr s base offset) rt (mergeLeft (s.gpr rt))
    (byteAt_upper h)
  rw [← exec_lwl_of_big base rt offset horder] at hnext
  refine ⟨t, _, hnext, hwrites, fun k hk => ?_⟩
  rw [byteOf_mergeLeft_firstBytes _ _ _ (by omega) hk, Nat.sub_sub_self (by omega), horder]
  by_cases hnew : lowBits (effAddr s base offset) ≤ k
  · rw [if_pos hnew, if_pos hnew]
    exact congrArg m (by simp only [laneIndex]; omega)
  · rw [if_neg hnew, if_neg hnew]

/-- The bytes `a + b` to `a + 3` go to the least significant end, in their order. -/
theorem exists_lwr_of_little (horder : s.par.byteOrder = .little)
    (h : ∀ i < 4, lowBits addr ≤ i → Params.valid s.par .load (alignedWord addr + BitVec.ofNat 32 i) = true
      ∧ ByteAt s (alignedWord addr) i (m i)) :
    ∃ t v, exec (.lwr base rt offset) s = .next t ∧ WritesReg rt v s t
      ∧ ∀ k < 4, byteOf v k = if k + lowBits addr ≤ 3 then m (k + lowBits addr) else byteOf (s.gpr rt) k := by
  subst haddr
  have hlow := lowBits_lt (effAddr s base offset)
  obtain ⟨t, hnext, hwrites⟩ := exists_loadLanes_writesReg (effAddr s base offset) rt (mergeRight (s.gpr rt))
    (byteAt_upper h)
  rw [← exec_lwr_of_little base rt offset horder] at hnext
  refine ⟨t, _, hnext, hwrites, fun k hk => ?_⟩
  rw [byteOf_mergeRight_firstBytes _ _ _ (by omega) hk, horder]
  by_cases hnew : k + lowBits (effAddr s base offset) ≤ 3
  · rw [if_pos hnew, if_pos (by omega), Nat.add_comm k]
    rfl
  · rw [if_neg hnew, if_neg (by omega)]

/-- The bytes `a` to `a + b` go to the least significant end, against their order. -/
theorem exists_lwr_of_big (horder : s.par.byteOrder = .big)
    (h : ∀ i ≤ lowBits addr, Params.valid s.par .load (alignedWord addr + BitVec.ofNat 32 i) = true
      ∧ ByteAt s (alignedWord addr) i (m i)) :
    ∃ t v, exec (.lwr base rt offset) s = .next t ∧ WritesReg rt v s t
      ∧ ∀ k < 4, byteOf v k = if k ≤ lowBits addr then m (lowBits addr - k) else byteOf (s.gpr rt) k := by
  subst haddr
  have hlow := lowBits_lt (effAddr s base offset)
  obtain ⟨t, hnext, hwrites⟩ :=
    exists_loadLanes_writesReg (n := lowBits (effAddr s base offset) + 1) (effAddr s base offset) rt (mergeRight (s.gpr rt))
      fun i hi => h i (Nat.le_of_lt_succ hi)
  rw [← exec_lwr_of_big base rt offset horder] at hnext
  refine ⟨t, _, hnext, hwrites, fun k hk => ?_⟩
  rw [byteOf_mergeRight_firstBytes _ _ _ (by omega) hk, horder]
  simp only [laneIndex, Nat.lt_succ_iff, Nat.add_sub_cancel]

end UnalignedLoads

/-! ## The faults of each access (R56, R57) -/

theorem memRead_of_misaligned (s : State) (kind : AccessKind) {addr : Word} {n : Nat} (h : addr.toNat % n ≠ 0) :
    memRead s kind addr n = .fault (.addressError kind addr) :=
  memRead_eq_fault.mpr (.inl ⟨h, rfl⟩)

theorem memRead_of_invalid {s : State} {kind : AccessKind} {addr : Word} {n : Nat} (haligned : addr.toNat % n = 0)
    (hinvalid : ¬ValidBytes s kind addr n) : memRead s kind addr n = .fault (.accessFault kind addr) :=
  memRead_eq_fault.mpr (.inr ⟨haligned, validRange_eq_false_iff.mpr hinvalid, rfl⟩)

theorem memWrite_of_misaligned (s : State) (v : Word) {addr : Word} {n : Nat} (hn : n ≤ 4) (h : addr.toNat % n ≠ 0) :
    memWrite s addr n v = .fault (.addressError .store addr) :=
  (memWrite_eq_fault hn).mpr (.inl ⟨h, rfl⟩)

theorem memWrite_of_invalid {s : State} (v : Word) {addr : Word} {n : Nat} (hn : n ≤ 4) (haligned : addr.toNat % n = 0)
    (hinvalid : ¬ValidBytes s .store addr n) : memWrite s addr n v = .fault (.accessFault .store addr) :=
  (memWrite_eq_fault hn).mpr (.inr ⟨haligned, validRange_eq_false_iff.mpr hinvalid, rfl⟩)

section AccessFaults

variable {base rt : RegIdx} {offset : BitVec 16} {s : State} {f : Fault}

theorem exec_ll_eq_fault :
    exec (.ll base rt offset) s = .fault f ↔ memRead s .load (effAddr s base offset) 4 = .fault f := by
  change execLl base rt offset s = .fault f ↔ _
  simp [execLl, andThen_eq_fault, retire]

/-- R208: SC checks its address whether or not it stores. -/
theorem exec_sc_eq_fault :
    exec (.sc base rt offset) s = .fault f ↔
      ((effAddr s base offset).toNat % 4 ≠ 0 ∧ f = .addressError .store (effAddr s base offset))
        ∨ ((effAddr s base offset).toNat % 4 = 0 ∧ s.validRange .store (effAddr s base offset) 4 = false
          ∧ f = .accessFault .store (effAddr s base offset)) := by
  change execSc base rt offset s = .fault f ↔ _
  simp [execSc, andThen_eq_fault, alignCheck_eq_fault, alignCheck_eq_next, accessCheck_eq_fault, retire]

theorem loadLanes_retire_eq_fault {addr start : Word} {n : Nat} {g : List Byte → Word} :
    andThen (loadLanes s .load addr start n) (fun lanes => retire rt (g lanes) s) = .fault f ↔
      ¬ValidBytes s .load start n ∧ f = .accessFault .load addr := by
  simp [andThen_eq_fault, retire, loadLanes_eq_fault, validRange_eq_false_iff]

theorem storeLanes_advance_eq_fault {addr start : Word} {lanes : List Byte} {n : Nat} (hlen : lanes.length = n) :
    andThen (storeLanes s addr start lanes) (fun t => .next t.advance) = .fault f ↔
      ¬ValidBytes s .store start n ∧ f = .accessFault .store addr := by
  simp [andThen_eq_fault, storeLanes_eq_fault, hlen, validRange_eq_false_iff]

theorem count_leftSpan_le (order : ByteOrder) (a : Word) : (leftSpan order a).count ≤ 4 := by
  have hlow := lowBits_lt a
  cases order <;> simp only [leftSpan, lowerSpan_eq, upperSpan_eq] <;> omega

theorem count_rightSpan_le (order : ByteOrder) (a : Word) : (rightSpan order a).count ≤ 4 := by
  have hlow := lowBits_lt a
  cases order <;> simp only [rightSpan, lowerSpan_eq, upperSpan_eq] <;> omega

theorem exec_lwl_eq_fault :
    exec (.lwl base rt offset) s = .fault f ↔
      ¬ValidBytes s .load (leftSpan s.par.byteOrder (effAddr s base offset)).start
          (leftSpan s.par.byteOrder (effAddr s base offset)).count ∧ f = .accessFault .load (effAddr s base offset) :=
  loadLanes_retire_eq_fault

theorem exec_lwr_eq_fault :
    exec (.lwr base rt offset) s = .fault f ↔
      ¬ValidBytes s .load (rightSpan s.par.byteOrder (effAddr s base offset)).start
          (rightSpan s.par.byteOrder (effAddr s base offset)).count ∧ f = .accessFault .load (effAddr s base offset) :=
  loadLanes_retire_eq_fault

theorem exec_swl_eq_fault :
    exec (.swl base rt offset) s = .fault f ↔
      ¬ValidBytes s .store (leftSpan s.par.byteOrder (effAddr s base offset)).start
          (leftSpan s.par.byteOrder (effAddr s base offset)).count ∧ f = .accessFault .store (effAddr s base offset) :=
  storeLanes_advance_eq_fault (length_drop_toLanes _ (count_leftSpan_le _ _))

theorem exec_swr_eq_fault :
    exec (.swr base rt offset) s = .fault f ↔
      ¬ValidBytes s .store (rightSpan s.par.byteOrder (effAddr s base offset)).start
          (rightSpan s.par.byteOrder (effAddr s base offset)).count ∧ f = .accessFault .store (effAddr s base offset) :=
  storeLanes_advance_eq_fault (length_take_toLanes _ (count_rightSpan_le _ _))

end AccessFaults

end Sys2Proof.Machine

/-! CERTIFICATE. The statements on single loads and stores (43_load_store.md, 20_memory.md). -/

namespace Sys2Proof.Proofs

open Sys2Proof.Machine Sys2Proof.Spec

/-- Settles O14. -/
theorem effectiveAddressAddsSignedOffset : Obligations.EffectiveAddressAddsSignedOffset :=
  fun s base offset => add_sext16_eq_ofInt (s.gpr base) offset

/-- Settles O16: the bytes read are put together in the byte order of the machine; LH passes the halfword through the sign
extension. -/
theorem loadHalfAndWordInByteOrder : Obligations.LoadHalfAndWordInByteOrder := by
  refine ⟨fun base rt offset s b0 b1 haligned hvalid h0 h1 => ?_,
    fun base rt offset s b0 b1 b2 b3 haligned hvalid h0 h1 h2 h3 => ?_⟩
  · have hread := memRead_two haligned hvalid h0 h1
    refine ⟨?_, ?_⟩
    · rw [exec_lh, ← sextHalf_setWidth]; exact exists_loadWith_writesReg rt hread
    · rw [exec_lhu, BitVec.ofNat_toNat]; exact exists_loadWith_writesReg rt hread
  · rw [exec_lw]; exact exists_loadWith_writesReg rt (memRead_four haligned hvalid h0 h1 h2 h3)

/-- Settles O17: LL is the load of a word, retired in the state that holds the reservation. -/
theorem loadLinkedReserves : Obligations.LoadLinkedReserves := by
  intro base rt offset s b0 b1 b2 b3 haligned hvalid h0 h1 h2 h3
  have hread := memRead_four haligned hvalid h0 h1 h2 h3
  obtain ⟨hreg, hhilo, ⟨hheld, haddr⟩, hmem, hrest, hadvanced⟩ :=
    writesReg_advance_setGpr rt (word s.par.byteOrder b0 b1 b2 b3) (s.reserve (effAddr s base offset))
  exact ⟨_, exec_ll_eq_next.mpr ⟨_, hread, rfl⟩, hreg, hheld, haddr, hhilo, hmem, hrest, hadvanced⟩

/-- Settles O18: for each order, the bytes moved are the lower or the upper ones of the aligned word, and the merge puts their lanes
at one end of the register. -/
theorem unalignedLoadsMerge : Obligations.UnalignedLoadsMerge := by
  refine ⟨fun base rt offset s m addr haddr hbytes => ?_, fun base rt offset s m addr haddr hbytes => ?_⟩
  · have hlow := lowBits_lt addr
    cases horder : s.par.byteOrder with
    | little =>
      simp only [horder, ByOrder] at hbytes ⊢
      exact exists_lwl_of_little haddr horder fun i hi => hbytes i (by omega) hi
    | big =>
      simp only [horder, ByOrder] at hbytes ⊢
      exact exists_lwl_of_big haddr horder hbytes
  · have hlow := lowBits_lt addr
    cases horder : s.par.byteOrder with
    | little =>
      simp only [horder, ByOrder] at hbytes ⊢
      exact exists_lwr_of_little haddr horder hbytes
    | big =>
      simp only [horder, ByOrder] at hbytes ⊢
      exact exists_lwr_of_big haddr horder fun i hi => hbytes i (by omega) hi

/-- Settles O20. -/
theorem storeHalfAndWordInByteOrder : Obligations.StoreHalfAndWordInByteOrder := by
  refine ⟨fun base rt offset s haligned hvalid => ?_, fun base rt offset s haligned hvalid => ?_⟩
  · rw [exec_sh]; exact exists_storeLow_stores (by omega) haligned hvalid
  · rw [exec_sw]; exact exists_storeLow_stores (by omega) haligned hvalid

/-- Settles O21: for each order, the lanes stored are the low or the high ones of the register, at the lower or the upper bytes of
the aligned word. -/
theorem unalignedStoresMoveTheirBytes : Obligations.UnalignedStoresMoveTheirBytes := by
  rintro base rt offset s addr rfl
  have hlow := lowBits_lt (effAddr s base offset)
  refine ⟨fun horder => ⟨fun hvalid => ?_, fun hvalid => ?_⟩, fun horder => ⟨fun hvalid => ?_, fun hvalid => ?_⟩⟩
  · rw [exec_swl_of_little base rt offset horder]
    refine exists_storeLanes_stores _ (length_drop_toLanes _ (by omega)) (by omega) hvalid fun i hi => ?_
    rw [getElem_arrange_drop_toLanes _ _ (by omega), horder]
    exact congrArg _ (by simp only [laneIndex]; omega)
  · rw [exec_swr_of_little base rt offset horder]
    refine exists_storeLanes_stores _ (length_take_toLanes _ (by omega)) (by omega) hvalid fun i hi => ?_
    rw [getElem_arrange_take_toLanes _ _ (by omega), horder]
    rfl
  · rw [exec_swl_of_big base rt offset horder]
    refine exists_storeLanes_stores _ (length_drop_toLanes _ (by omega)) (by omega) hvalid fun i hi => ?_
    rw [arrange_length, length_drop_toLanes _ (by omega)] at hi
    rw [getElem_arrange_drop_toLanes _ _ (by omega), horder]
    exact congrArg _ (by simp only [laneIndex]; omega)
  · rw [exec_swr_of_big base rt offset horder]
    refine exists_storeLanes_stores _ (length_take_toLanes _ (by omega)) (by omega) hvalid fun i hi => ?_
    rw [getElem_arrange_take_toLanes _ _ (by omega), horder]
    exact congrArg _ (by simp only [laneIndex]; omega)

/-- Settles O23: the alignment check comes first, and the validity check after it has one fault left. -/
theorem alignedAccessChecks : Obligations.AlignedAccessChecks := by
  refine ⟨fun base rt offset s => ?_, fun base rt offset s => ?_⟩
  · split
    · rename_i hodd
      have hread := memRead_of_misaligned s .load hodd
      have hwrite := memWrite_of_misaligned s (s.gpr rt) (by omega) hodd
      exact ⟨loadWith_eq_fault.mpr hread, loadWith_eq_fault.mpr hread, storeLow_eq_fault.mpr hwrite⟩
    · rename_i haligned
      rw [Classical.not_not] at haligned
      refine ⟨fun hinvalid => ?_, fun hinvalid => ?_⟩
      · have hread := memRead_of_invalid haligned hinvalid
        exact ⟨loadWith_eq_fault.mpr hread, loadWith_eq_fault.mpr hread⟩
      · exact storeLow_eq_fault.mpr (memWrite_of_invalid (s.gpr rt) (by omega) haligned hinvalid)
  · split
    · rename_i hmisaligned
      have hread := memRead_of_misaligned s .load hmisaligned
      have hwrite := memWrite_of_misaligned s (s.gpr rt) (by omega) hmisaligned
      exact ⟨loadWith_eq_fault.mpr hread, exec_ll_eq_fault.mpr hread, storeLow_eq_fault.mpr hwrite,
        exec_sc_eq_fault.mpr (.inl ⟨hmisaligned, rfl⟩)⟩
    · rename_i haligned
      rw [Classical.not_not] at haligned
      refine ⟨fun hinvalid => ?_, fun hinvalid => ?_⟩
      · have hread := memRead_of_invalid haligned hinvalid
        exact ⟨loadWith_eq_fault.mpr hread, exec_ll_eq_fault.mpr hread⟩
      · exact ⟨storeLow_eq_fault.mpr (memWrite_of_invalid (s.gpr rt) (by omega) haligned hinvalid),
          exec_sc_eq_fault.mpr (.inr ⟨haligned, validRange_eq_false_iff.mpr hinvalid, rfl⟩)⟩

/-- Settles O24: the one check of the four is that the bytes moved are valid, and its one fault is `AccessFault`. -/
theorem unalignedAccessChecksMovedBytes : Obligations.UnalignedAccessChecksMovedBytes := by
  rintro base rt offset s addr rfl
  refine ⟨fun k a => ⟨?_, ?_, ?_, ?_⟩, fun horder => ?_, fun horder => ?_⟩
  · rw [Ne, exec_lwl_eq_fault]; exact fun ⟨_, heq⟩ => nomatch heq
  · rw [Ne, exec_lwr_eq_fault]; exact fun ⟨_, heq⟩ => nomatch heq
  · rw [Ne, exec_swl_eq_fault]; exact fun ⟨_, heq⟩ => nomatch heq
  · rw [Ne, exec_swr_eq_fault]; exact fun ⟨_, heq⟩ => nomatch heq
  · simp only [exec_lwl_eq_fault, exec_lwr_eq_fault, exec_swl_eq_fault, exec_swr_eq_fault, horder, leftSpan, rightSpan,
      lowerSpan_eq, upperSpan_eq, and_true, and_self]
  · simp only [exec_lwl_eq_fault, exec_lwr_eq_fault, exec_swl_eq_fault, exec_swr_eq_fault, horder, leftSpan, rightSpan,
      lowerSpan_eq, upperSpan_eq, and_true, and_self]

end Sys2Proof.Proofs

/-! SUPPORT. What SC does (43_load_store.md R208): its decision by policy, and its effect for either decision; a store and the loads
after it (20_memory.md R63). -/

namespace Sys2Proof.Machine

open Sys2Proof.Spec

/-! ## The decision of an SC, by policy -/

section Decision

variable {s : State} (a : Word)

theorem scResolve_of_guarded (h : s.par.scPolicy = .guarded) :
    scResolve s a = if s.llValid = true ∧ s.llAddr = a then (true, s) else (Config.scDraw s.draws, s.drawn) := by
  simp only [scResolve, scDecision, h, Bool.and_eq_true, beq_iff_eq]
  by_cases hheld : s.llValid = true ∧ s.llAddr = a
  · rw [if_pos hheld, if_pos hheld]
  · rw [if_neg hheld, if_neg hheld]

theorem scResolve_of_strict (h : s.par.scPolicy = .strict) :
    scResolve s a = (decide (s.llValid = true ∧ s.llAddr = a), s) := by
  simp only [scResolve, scDecision, h, Bool.decide_and, Bool.decide_eq_true]
  rfl

theorem scResolve_of_always (h : s.par.scPolicy = .always) : scResolve s a = (true, s) := by
  simp only [scResolve, scDecision, h]

theorem scResolve_of_draw (h : s.par.scPolicy = .draw) : scResolve s a = (Config.scDraw s.draws, s.drawn) := by
  simp only [scResolve, scDecision, h]

/-- An SC to the address of a held reservation succeeds, whatever the policy, unless it is `draw`. -/
theorem scResolve_of_held (hpolicy : s.par.scPolicy ≠ .draw) (hheld : s.llValid = true) (haddr : s.llAddr = a) :
    scResolve s a = (true, s) := by
  cases h : s.par.scPolicy with
  | guarded => rw [scResolve_of_guarded a h, if_pos ⟨hheld, haddr⟩]
  | strict => rw [scResolve_of_strict a h, decide_eq_true ⟨hheld, haddr⟩]
  | always => exact scResolve_of_always a h
  | draw => exact absurd h hpolicy

end Decision

/-! ## The effect of an SC -/

/-- What is kept by an SC with the flag `ok`: of the four bytes at `a`, it stores those of `v` or none. -/
def ConditionallyStores (a v : Word) (ok : Bool) (s t : State) : Prop :=
  (ok = true →
    (∀ i < 4, ByteAt t a i (storedByte s.par.byteOrder 4 v i))
      ∧ ∀ c : Nat, (∀ i < 4, (a + BitVec.ofNat 32 i).toNat ≠ c) → Memory.read t.mem c = Memory.read s.mem c)
    ∧ (ok = false → MemoryKept s t)
    ∧ t.llValid = false ∧ t.llAddr = s.llAddr ∧ HiLoKept s t ∧ HostKept s t ∧ Advanced s t

theorem length_arrange_toLanes (order : ByteOrder) (v : Word) : (arrange order (toLanes v)).length = 4 := by
  rw [arrange_length, toLanes_length]

theorem getElem_arrange_toLanes (order : ByteOrder) (v : Word) {i : Nat} (hi : i < (arrange order (toLanes v)).length) :
    (arrange order (toLanes v))[i] = storedByte order 4 v i := by
  rw [getElem_arrange, getElem_toLanes, toLanes_length, storedByte_eq]

/-- R57: the word stored stands in the byte order of the machine, and no other byte changes. -/
theorem bytesStored_word (s : State) (order : ByteOrder) (a v : Word) :
    BytesStored a 4 (storedByte order 4 v) s (s.storeBytes a (arrange order (toLanes v))) := by
  have hstored := bytesStored_storeBytes s a (bs := arrange order (toLanes v)) (by rw [length_arrange_toLanes]; omega)
    fun i hi => getElem_arrange_toLanes order v hi
  rwa [length_arrange_toLanes] at hstored

theorem exists_sc {base rt : RegIdx} {offset : BitVec 16} {s u : State} {ok : Bool}
    (haligned : (effAddr s base offset).toNat % 4 = 0) (hvalid : ValidBytes s .store (effAddr s base offset) 4)
    (hresolve : scResolve s (effAddr s base offset) = (ok, u)) :
    ∃ t, exec (.sc base rt offset) s = .next t ∧ RegWritten rt (boolWord ok) s t
      ∧ ConditionallyStores (effAddr s base offset) (s.gpr rt) ok s t ∧ t.draws = u.draws := by
  have hu : u = s ∨ u = s.drawn := by simpa only [hresolve] using scResolve_snd s (effAddr s base offset)
  have hexec := (exec_sc_eq_next (rt := rt)).mpr ⟨haligned, validRange_iff.mpr hvalid, rfl⟩
  rw [hresolve] at hexec
  refine ⟨_, hexec, ?_⟩
  cases ok with
  | true =>
    obtain ⟨hbytes, hothers, -, -⟩ := bytesStored_word u s.par.byteOrder (effAddr s base offset) (s.gpr rt)
    obtain ⟨hreg, -, -, -, -, -⟩ := writesReg_advance_setGpr rt (boolWord true)
      (u.storeBytes (effAddr s base offset) (arrange s.par.byteOrder (toLanes (s.gpr rt)))).clearReservation
    rcases hu with rfl | rfl <;>
      exact ⟨hreg, ⟨fun _ => ⟨by simpa [ByteAt] using hbytes, by simpa using hothers⟩, nofun, by simp, by simp, by simp [HiLoKept],
        by simp [HostKept], by simp [Advanced]⟩, by simp⟩
  | false =>
    obtain ⟨hreg, -, -, -, -, -⟩ := writesReg_advance_setGpr rt (boolWord false) u.clearReservation
    rcases hu with rfl | rfl <;>
      exact ⟨hreg, ⟨nofun, fun _ => by simp [MemoryKept], by simp, by simp, by simp [HiLoKept], by simp [HostKept],
        by simp [Advanced]⟩, by simp⟩

/-! ## A word store and the loads after it -/

theorem byteOf_append_byteOf (v : Word) (k : Nat) : byteOf v (k + 1) ++ byteOf v k = v.extractLsb' (8 * k) 16 :=
  BitVec.extractLsb'_append_extractLsb'_eq_extractLsb' rfl

theorem halfword_little_storedByte (v : Word) (i : Nat) :
    halfword .little (storedByte .little 4 v i) (storedByte .little 4 v (i + 1)) = v.extractLsb' (8 * i) 16 :=
  byteOf_append_byteOf v i

theorem halfword_big_storedByte (v : Word) {i : Nat} (hi : i ≤ 2) :
    halfword .big (storedByte .big 4 v i) (storedByte .big 4 v (i + 1)) = v.extractLsb' (8 * (2 - i)) 16 := by
  have hupper : 4 - 1 - i = 2 - i + 1 := by omega
  have hlower : 4 - 1 - (i + 1) = 2 - i := by omega
  simp only [halfword, storedByte, hupper, hlower, byteOf_append_byteOf]

/-- R57: a word store that completes leaves the bytes of the word and the parameters. -/
theorem byteAt_of_memWrite {s t : State} {a v : Word} (h : memWrite s a 4 v = .next t) :
    a.toNat % 4 = 0 ∧ t.par = s.par ∧ ∀ i < 4, ByteAt t a i (storedByte t.par.byteOrder 4 v i) := by
  obtain ⟨haligned, hstore⟩ := memWrite_eq_next.mp h
  obtain ⟨-, rfl⟩ := storeLanes_eq_next.mp hstore
  obtain ⟨hbytes, -, -, -⟩ := bytesStored_word s s.par.byteOrder a v
  exact ⟨haligned, rfl, hbytes⟩

section StoredWord

variable {s : State} {a v : Word} (haligned : a.toNat % 4 = 0) (hvalid : ValidBytes s .load a 4)
  (hbytes : ∀ i < 4, ByteAt s a i (storedByte s.par.byteOrder 4 v i))

include haligned hvalid hbytes

theorem memRead_word_of_stored : memRead s .load a 4 = .next v := by
  rw [memRead_of_byteAt (length_arrange_toLanes s.par.byteOrder v) haligned hvalid, arrange_arrange, ofLanes_toLanes]
  intro i hi
  rw [getElem_arrange_toLanes]
  exact hbytes i (by rwa [length_arrange_toLanes] at hi)

/-- The halfword at `a + i`, for an even place `i` of the word. -/
theorem memRead_halfword_of_stored {i : Nat} (heven : i % 2 = 0) (hi : i ≤ 2) :
    memRead s .load (a + BitVec.ofNat 32 i) 2
      = .next ((halfword s.par.byteOrder (storedByte s.par.byteOrder 4 v i)
          (storedByte s.par.byteOrder 4 v (i + 1))).setWidth 32) := by
  have hshift : ∀ j, a + BitVec.ofNat 32 i + BitVec.ofNat 32 j = a + BitVec.ofNat 32 (i + j) := fun j => by
    rw [BitVec.ofNat_add, BitVec.add_assoc]
  refine memRead_two ?_ (fun j hj => ?_) ?_ ?_
  · rw [BitVec.toNat_add, BitVec.toNat_ofNat]; omega
  · rw [hshift]; exact hvalid (i + j) (by omega)
  · rw [ByteAt, hshift]; exact hbytes i (by omega)
  · rw [ByteAt, hshift]; exact hbytes (i + 1) (by omega)

end StoredWord

/-! ## Instructions that leave the reservation alone -/

theorem reservation_of_executes {between : List Instr} {s t : State} (h : Executes between s t)
    (hkeeps : ∀ i ∈ between, keepsReservation i = true) : ReservationKept s t ∧ t.par = s.par := by
  induction between generalizing s with
  | nil => cases h; exact ⟨⟨rfl, rfl⟩, rfl⟩
  | cons i rest ih =>
    obtain ⟨u, hexec, hrest⟩ := h
    have heffect := effect_of_exec hexec
    obtain ⟨hvalid, haddr⟩ := heffect.reservationKept (hkeeps i (List.mem_cons_self ..))
    obtain ⟨⟨hvalid', haddr'⟩, hpar⟩ := ih hrest fun j hj => hkeeps j (List.mem_cons_of_mem i hj)
    exact ⟨⟨hvalid'.trans hvalid, haddr'.trans haddr⟩, hpar.trans heffect.par_eq⟩

end Sys2Proof.Machine

/-! CERTIFICATE. The statements on SC and on what stores and loads do together (43_load_store.md, 20_memory.md). -/

namespace Sys2Proof.Proofs

open Sys2Proof.Machine Sys2Proof.Spec

/-- Settles O22: the effect of an SC follows from its decision, and each policy fixes the decision and the draw. -/
theorem storeConditionalFollowsPolicy : Obligations.StoreConditionalFollowsPolicy := by
  intro base rt offset s haligned hvalid
  obtain ⟨t, hexec, hreg, ⟨hstored, hkept, hlost, haddr, hhilo, hhost, hadvanced⟩, hdraws⟩ :=
    exists_sc (rt := rt) haligned hvalid (Prod.eta (scResolve s (effAddr s base offset))).symm
  refine ⟨t, (scResolve s (effAddr s base offset)).1, hexec, hreg, hstored, hkept, hlost, haddr, hhilo, hhost, hadvanced, ?_⟩
  rw [hdraws]
  refine ⟨fun hpolicy => ?_, fun hpolicy => ?_, fun hpolicy => ?_, fun hpolicy => ?_⟩
  · rw [scResolve_of_guarded _ hpolicy]
    split
    · exact ⟨rfl, rfl⟩
    · exact ⟨rfl, rfl⟩
  · rw [scResolve_of_strict _ hpolicy]
    exact ⟨decide_eq_true_iff, rfl⟩
  · rw [scResolve_of_always _ hpolicy]
    exact ⟨rfl, rfl⟩
  · rw [scResolve_of_draw _ hpolicy]
    exact ⟨rfl, rfl⟩

/-- Settles O27: the bytes of the stored word are read in the byte order in which they were stored. -/
theorem loadsSeeTheStoredWord : Obligations.LoadsSeeTheStoredWord := by
  intro s t a v hwrite hvalid
  obtain ⟨haligned, hpar, hbytes⟩ := byteAt_of_memWrite hwrite
  rw [ValidBytes, ← hpar] at hvalid
  have hlow := memRead_halfword_of_stored haligned hvalid hbytes (i := 0) (by omega) (by omega)
  have hhigh := memRead_halfword_of_stored haligned hvalid hbytes (i := 2) (by omega) (by omega)
  rw [BitVec.add_zero] at hlow
  rw [← hpar]
  refine ⟨memRead_word_of_stored haligned hvalid hbytes, fun i hi => memRead_one (hvalid i hi) (hbytes i hi), ?_⟩
  cases horder : t.par.byteOrder with
  | little =>
    rw [horder, halfword_little_storedByte] at hlow hhigh
    exact ⟨hlow, hhigh⟩
  | big =>
    rw [horder, halfword_big_storedByte v (by omega)] at hlow hhigh
    exact ⟨hlow, hhigh⟩

/-- Settles O28: by induction on the instructions between, the reservation that LL made is still held, so that the decision of the
SC is to store. -/
theorem linkedStoreSucceeds : Obligations.LinkedStoreSucceeds := by
  intro base rt base' rt' offset offset' between s t u hll hbetween hkeeps haddr hvalid hpolicy
  obtain ⟨v, hread, rfl⟩ := exec_ll_eq_next.mp hll
  obtain ⟨haligned, -⟩ := memRead_eq_next.mp hread
  obtain ⟨⟨hheld, hllAddr⟩, hpar⟩ := reservation_of_executes hbetween hkeeps
  simp only [State.advance_llValid, State.setGpr_llValid, State.reserve_llValid, State.advance_llAddr, State.setGpr_llAddr,
    State.reserve_llAddr, State.advance_par, State.setGpr_par, State.reserve_par] at hheld hllAddr hpar
  have hresolve : scResolve u (effAddr u base' offset') = (true, u) :=
    scResolve_of_held _ (by rwa [hpar]) hheld (by rw [hllAddr, haddr])
  obtain ⟨w, hexec, hreg, ⟨hstored, -, hlost, -⟩, -⟩ :=
    exists_sc (rt := rt') (by rwa [haddr]) (by rw [ValidBytes, haddr, hpar]; exact hvalid) hresolve
  refine ⟨w, hexec, ?_, hreg, hlost⟩
  rw [← haddr, ← hpar]
  exact (hstored rfl).1

end Sys2Proof.Proofs

/-! SUPPORT. The pairs of unaligned accesses at `A` and `A + 3` (43_load_store.md R209): between them they move the four bytes from
`A` on, whatever the alignment. -/

namespace Sys2Proof.Machine

open Sys2Proof.Spec

/-! ## The addresses of a pair -/

theorem sext16_add_three {o o3 : BitVec 16} (h : o3.toInt = o.toInt + 3) : sext16 o3 = sext16 o + 3 := by
  have hext : ∀ i : BitVec 16, sext16 i = BitVec.ofInt 32 i.toInt := fun _ => rfl
  rw [hext, hext, h, BitVec.ofInt_add]; rfl

/-- The second access of a pair is at `A + 3`, if the first kept the base register. -/
theorem effAddr_add_three {s t : State} {base : RegIdx} {o o3 : BitVec 16} (h : o3.toInt = o.toInt + 3)
    (hbase : t.gpr base = s.gpr base) : effAddr t base o3 = effAddr s base o + 3 := by
  rw [effAddr, effAddr, hbase, sext16_add_three h, BitVec.add_assoc]

theorem lowBits_add_three (a : Word) : lowBits (a + 3) = (lowBits a + 3) % 4 := by
  rw [lowBits, lowBits, BitVec.toNat_add, show (3 : Word).toNat = 3 from rfl]
  omega

/-- The bytes of the aligned word from `A` on, as seen from `A`. -/
theorem alignedWord_add_of_le {a : Word} {i : Nat} (hi : lowBits a ≤ i) :
    alignedWord a + BitVec.ofNat 32 i = a + BitVec.ofNat 32 (i - lowBits a) := by
  rw [← alignedWord_add_lowBits_add a, Nat.add_sub_cancel' hi]

/-- The bytes of the aligned word of `A + 3`, as seen from `A`. -/
theorem alignedWord_add_three_add (a : Word) (i : Nat) :
    alignedWord (a + 3) + BitVec.ofNat 32 i = a + BitVec.ofNat 32 (i + 3 - lowBits (a + 3)) := by
  have hlow := lowBits_lt (a + 3)
  refine (BitVec.add_left_inj 3#32).mp ?_
  calc alignedWord (a + 3) + BitVec.ofNat 32 i + 3#32
      = alignedWord (a + 3) + BitVec.ofNat 32 (lowBits (a + 3) + (i + 3 - lowBits (a + 3))) := by
        rw [Nat.add_sub_cancel' (by omega), BitVec.add_assoc, ← BitVec.ofNat_add]
    _ = a + 3#32 + BitVec.ofNat 32 (i + 3 - lowBits (a + 3)) := alignedWord_add_lowBits_add (a + 3) _
    _ = a + BitVec.ofNat 32 (i + 3 - lowBits (a + 3)) + 3#32 := by ac_rfl

/-! ## Composing frames -/

theorem regWritten_trans {r : RegIdx} {v w : Word} {s t u : State} (h : RegWritten r v s t) (h' : RegWritten r w t u) :
    RegWritten r w s u := by
  intro q
  rw [h', h]
  by_cases hq : q = r ∧ q ≠ 0
  · rw [if_pos hq, if_pos hq]
  · rw [if_neg hq, if_neg hq, if_neg hq]

theorem gpr_same_of_regWritten {r : RegIdx} {v : Word} {s t : State} (h : RegWritten r v s t) (hr : r ≠ 0) : t.gpr r = v := by
  rw [h, if_pos ⟨rfl, hr⟩]

theorem gpr_other_of_regWritten {r q : RegIdx} {v : Word} {s t : State} (h : RegWritten r v s t) (hq : q ≠ r) :
    t.gpr q = s.gpr q := by
  rw [h, if_neg fun hsame => hq hsame.1]

/-! ## The pair of loads -/

/-- The four bytes from `A` are valid for `load`, and `f k` is the one at `A + k`. -/
def LoadableBytes (s : State) (a : Word) (f : Nat → Byte) : Prop :=
  ∀ k < 4, Params.valid s.par .load (a + BitVec.ofNat 32 k) = true ∧ ByteAt s a k (f k)

section LoadPair

variable {s : State} {a : Word} {f : Nat → Byte} (h : LoadableBytes s a f)

include h

theorem LoadableBytes.upper {i : Nat} (hi : i < 4) (hle : lowBits a ≤ i) :
    Params.valid s.par .load (alignedWord a + BitVec.ofNat 32 i) = true
      ∧ ByteAt s (alignedWord a) i (f (i - lowBits a)) := by
  rw [ByteAt, alignedWord_add_of_le hle]
  exact h (i - lowBits a) (by omega)

theorem LoadableBytes.lower {i : Nat} (hi : i ≤ lowBits (a + 3)) :
    Params.valid s.par .load (alignedWord (a + 3) + BitVec.ofNat 32 i) = true
      ∧ ByteAt s (alignedWord (a + 3)) i (f (i + 3 - lowBits (a + 3))) := by
  have hlow := lowBits_lt (a + 3)
  rw [ByteAt, alignedWord_add_three_add]
  exact h (i + 3 - lowBits (a + 3)) (by omega)

/-- What a load keeps stays loadable. -/
theorem LoadableBytes.of_writesReg {r : RegIdx} {v : Word} {t : State} (hwrites : WritesReg r v s t) :
    LoadableBytes t a f := by
  obtain ⟨-, -, -, hmem, ⟨⟨-, -, -, hpar⟩, -⟩, -⟩ := hwrites
  intro k hk
  rw [ByteAt, hpar, hmem]
  exact h k hk

end LoadPair

/-- The value that the pair leaves, byte by byte, is the word at `A`. -/
theorem eq_word_of_byteOf {order : ByteOrder} {v : Word} {b0 b1 b2 b3 : Byte}
    (h : ∀ k < 4, byteOf v k = [b0, b1, b2, b3].getD (laneIndex order 4 k) 0) : v = word order b0 b1 b2 b3 := by
  apply word_ext
  intro k hk
  have hlane : laneIndex order 4 k < [b0, b1, b2, b3].length := laneIndex_lt order hk
  rw [h k hk, ← ofLanes_arrange_four, byteOf_ofLanes hk (by simpa using hk), getElem_arrange,
    List.getD_eq_getElem?_getD, List.getElem?_eq_getElem hlane]
  rfl

section LoadPairs

variable {base rt : RegIdx} {o o3 : BitVec 16} {s : State} {f : Nat → Byte} (h3 : o3.toInt = o.toInt + 3) (hrt : rt ≠ 0)
  (hbase : rt ≠ base) (hbytes : LoadableBytes s (effAddr s base o) f)

include h3 hrt hbase hbytes

theorem exists_load_pair_of_little (horder : s.par.byteOrder = .little) :
    ∃ t u v, (exec (.lwr base rt o) s = .next t ∧ exec (.lwl base rt o3) t = .next u)
      ∧ RegWritten rt v s u ∧ MemoryKept s u ∧ ∀ k < 4, byteOf v k = f k := by
  obtain ⟨t, v, hfirst, hwrites, hv⟩ := exists_lwr_of_little (rt := rt) rfl horder fun i hi hle => hbytes.upper hi hle
  have hbytes' := hbytes.of_writesReg hwrites
  obtain ⟨hreg, -, -, hmem, ⟨⟨-, -, -, hpar⟩, -⟩, -⟩ := hwrites
  have haddr := effAddr_add_three h3 (gpr_other_of_regWritten hreg hbase.symm)
  obtain ⟨u, w, hsecond, ⟨hreg', -, -, hmem', -⟩, hw⟩ :=
    exists_lwl_of_little (rt := rt) haddr.symm (by rwa [hpar]) fun i hi => hbytes'.lower hi
  refine ⟨t, u, w, ⟨hfirst, hsecond⟩, regWritten_trans hreg hreg', fun c => (hmem' c).trans (hmem c), fun k hk => ?_⟩
  have hlow := lowBits_lt (effAddr s base o)
  have hlow' := lowBits_add_three (effAddr s base o)
  rw [hw k hk]
  split
  · exact congrArg f (by omega)
  · rw [gpr_same_of_regWritten hreg hrt, hv k hk, if_pos (by omega), Nat.add_sub_cancel]

theorem exists_load_pair_of_big (horder : s.par.byteOrder = .big) :
    ∃ t u v, (exec (.lwl base rt o) s = .next t ∧ exec (.lwr base rt o3) t = .next u)
      ∧ RegWritten rt v s u ∧ MemoryKept s u ∧ ∀ k < 4, byteOf v k = f (3 - k) := by
  obtain ⟨t, v, hfirst, hwrites, hv⟩ := exists_lwl_of_big (rt := rt) rfl horder fun i hi hle => hbytes.upper hi hle
  have hbytes' := hbytes.of_writesReg hwrites
  obtain ⟨hreg, -, -, hmem, ⟨⟨-, -, -, hpar⟩, -⟩, -⟩ := hwrites
  have haddr := effAddr_add_three h3 (gpr_other_of_regWritten hreg hbase.symm)
  obtain ⟨u, w, hsecond, ⟨hreg', -, -, hmem', -⟩, hw⟩ :=
    exists_lwr_of_big (rt := rt) haddr.symm (by rwa [hpar]) fun i hi => hbytes'.lower hi
  refine ⟨t, u, w, ⟨hfirst, hsecond⟩, regWritten_trans hreg hreg', fun c => (hmem' c).trans (hmem c), fun k hk => ?_⟩
  have hlow := lowBits_lt (effAddr s base o)
  have hlow' := lowBits_add_three (effAddr s base o)
  rw [hw k hk]
  split
  · exact congrArg f (by omega)
  · rw [gpr_same_of_regWritten hreg hrt, hv k hk, if_pos (by omega)]
    exact congrArg f (by omega)

end LoadPairs

/-! ## The pair of stores -/

/-- Two stores of the bytes `g 0`, `g 1`, …, the first of the `p` bytes from `A` and the second of the `r` bytes from `A + q` to the
end of the four, leave the four bytes. -/
theorem read_of_two_stores {s t u : State} {a b : Word} {p q r : Nat} {g k : Nat → Byte} (hfirst : BytesStored a p g s t)
    (hsecond : BytesStored b r k t u) (hb : ∀ j < r, b + BitVec.ofNat 32 j = a + BitVec.ofNat 32 (q + j))
    (hk : ∀ j < r, k j = g (q + j)) (hqp : q ≤ p) (hp : p ≤ 4) (hqr : q + r = 4) :
    (∀ i < 4, ByteAt u a i (g i))
      ∧ ∀ c : Nat, (∀ i < 4, (a + BitVec.ofNat 32 i).toNat ≠ c) → Memory.read u.mem c = Memory.read s.mem c := by
  obtain ⟨hbytes, hothers, -, -⟩ := hfirst
  obtain ⟨hbytes', hothers', -, -⟩ := hsecond
  refine ⟨fun i hi => ?_, fun c hc => ?_⟩
  · by_cases hpart : q ≤ i
    · have hread := hbytes' (i - q) (by omega)
      rwa [hb _ (by omega), hk _ (by omega), Nat.add_sub_cancel' hpart] at hread
    · rw [ByteAt, hothers' _ fun j hj => ?_]
      · exact hbytes i (by omega)
      · rw [hb j hj, BitVec.toNat_add, BitVec.toNat_add, BitVec.toNat_ofNat, BitVec.toNat_ofNat]
        omega
  · rw [hothers' c fun j hj => by rw [hb j hj]; exact hc (q + j) (by omega), hothers c fun i hi => hc i (by omega)]

/-- The last bytes of the four are valid if the four are. -/
theorem validBytes_lower {s t : State} {kind : AccessKind} {a : Word} (h : ValidBytes s kind a 4) (hpar : t.par = s.par) :
    ValidBytes t kind (alignedWord (a + 3)) (lowBits (a + 3) + 1) := by
  intro i hi
  have hlow := lowBits_lt (a + 3)
  rw [alignedWord_add_three_add, hpar]
  exact h _ (by omega)

theorem store_pair {s t u : State} {a : Word} {g k : Nat → Byte} (hfirst : Stores a (4 - lowBits a) g s t)
    (hsecond : Stores (alignedWord (a + 3)) (lowBits (a + 3) + 1) k t u)
    (hk : ∀ j < lowBits (a + 3) + 1, k j = g (3 - lowBits (a + 3) + j)) :
    (∀ i < 4, ByteAt u a i (g i))
      ∧ (∀ c : Nat, (∀ i < 4, (a + BitVec.ofNat 32 i).toNat ≠ c) → Memory.read u.mem c = Memory.read s.mem c)
      ∧ RegsKept s u := by
  have hlow := lowBits_lt a
  have hlow' := lowBits_add_three a
  have hlast : ∀ j < lowBits (a + 3) + 1,
      alignedWord (a + 3) + BitVec.ofNat 32 j = a + BitVec.ofNat 32 (3 - lowBits (a + 3) + j) := by
    intro j hj
    rw [alignedWord_add_three_add]
    congr 2; omega
  obtain ⟨hstored, hregs, -⟩ := hfirst
  obtain ⟨hstored', hregs', -⟩ := hsecond
  obtain ⟨hbytes, hothers⟩ := read_of_two_stores hstored hstored' hlast hk (by omega) (by omega) (by omega)
  exact ⟨hbytes, hothers, fun q => (hregs' q).trans (hregs q)⟩

end Sys2Proof.Machine

/-! CERTIFICATE. The idioms for unaligned words (43_load_store.md R209). -/

namespace Sys2Proof.Proofs

open Sys2Proof.Machine Sys2Proof.Spec

/-- Settles O25: the first load of the pair fetches the bytes up to the end of the aligned word, the second the others, and each
byte lands where the word at `A` has it. -/
theorem unalignedLoadIdiom : Obligations.UnalignedLoadIdiom := by
  rintro base rt o o3 s b0 b1 b2 b3 A rfl h3 hrt hbase hvalid h0 h1 h2 h3'
  have hbytes : LoadableBytes s (effAddr s base o) fun k => [b0, b1, b2, b3].getD k 0 := by
    intro k hk
    refine ⟨hvalid k hk, ?_⟩
    match k, hk with
    | 0, _ => exact h0
    | 1, _ => exact h1
    | 2, _ => exact h2
    | 3, _ => exact h3'
  cases horder : s.par.byteOrder with
  | little =>
    obtain ⟨t, u, v, hpair, hreg, hmem, hv⟩ := exists_load_pair_of_little h3 hrt hbase hbytes horder
    exact ⟨t, u, hpair, eq_word_of_byteOf (order := .little) hv ▸ hreg, hmem⟩
  | big =>
    obtain ⟨t, u, v, hpair, hreg, hmem, hv⟩ := exists_load_pair_of_big h3 hrt hbase hbytes horder
    exact ⟨t, u, hpair, eq_word_of_byteOf (order := .big) hv ▸ hreg, hmem⟩

/-- Settles O26, from what each store of the pair does by itself (O21): the first stores the bytes up to the end of the aligned word,
the second the last ones, and they agree where they overlap. -/
theorem unalignedStoreIdiom : Obligations.UnalignedStoreIdiom := by
  rintro base rt o o3 s A rfl h3 hvalid
  cases horder : s.par.byteOrder with
  | little =>
    obtain ⟨hlittle, -⟩ := unalignedStoresMoveTheirBytes base rt o s _ rfl
    obtain ⟨t, hfirst, hstores⟩ := (hlittle horder).2 fun i hi => hvalid i (by omega)
    have ⟨_, hregs, _, ⟨⟨_, _, _, hpar⟩, _⟩, _⟩ := hstores
    obtain ⟨hlittle', -⟩ := unalignedStoresMoveTheirBytes base rt o3 t _ (effAddr_add_three h3 (hregs base)).symm
    obtain ⟨u, hsecond, hstores'⟩ := (hlittle' (by rw [hpar, horder])).1 (validBytes_lower hvalid hpar)
    exact ⟨t, u, ⟨hfirst, hsecond⟩, store_pair hstores hstores' fun j _ => by rw [hregs]; rfl⟩
  | big =>
    obtain ⟨-, hbig⟩ := unalignedStoresMoveTheirBytes base rt o s _ rfl
    obtain ⟨t, hfirst, hstores⟩ := (hbig horder).1 fun i hi => hvalid i (by omega)
    have ⟨_, hregs, _, ⟨⟨_, _, _, hpar⟩, _⟩, _⟩ := hstores
    obtain ⟨-, hbig'⟩ := unalignedStoresMoveTheirBytes base rt o3 t _ (effAddr_add_three h3 (hregs base)).symm
    obtain ⟨u, hsecond, hstores'⟩ := (hbig' (by rw [hpar, horder])).2 (validBytes_lower hvalid hpar)
    have hlow := lowBits_lt (effAddr s base o + 3)
    exact ⟨t, u, ⟨hfirst, hsecond⟩, store_pair hstores hstores' fun j hj => by
      rw [hregs]; exact congrArg (byteOf (s.gpr rt)) (by omega)⟩

end Sys2Proof.Proofs

/-! SUPPORT. What the control transfers do (44_branch.md, 45_jump.md): the targets as numbers, the frame of a transfer, and the check of
R217, which they alone make. -/

namespace Sys2Proof.Machine

open Sys2Proof.Spec

/-! ## Targets -/

/-- R216: the offset counts words from the instruction after the branch. -/
theorem branchTarget_eq_ofInt (pc : Word) (offset : BitVec 16) :
    branchTarget pc offset = BitVec.ofInt 32 (pc.toNat + 4 + 4 * offset.toInt) := by
  have hoffset : (offset ++ 0#2).signExtend 32 = BitVec.ofInt 32 (4 * offset.toInt) := by
    rw [BitVec.signExtend, BitVec.toInt_append_zero]; rfl
  rw [branchTarget, hoffset, BitVec.ofInt_add, BitVec.ofInt_add, ofInt_toNat]; rfl

/-- R93: the target lies in the region of 2^28 bytes of the instruction after the jump. -/
theorem jumpTarget_eq_ofNat (pc : Word) (index : BitVec 26) :
    jumpTarget pc index = BitVec.ofNat 32 ((pc + 4).toNat / 2 ^ 28 * 2 ^ 28 + 4 * index.toNat) := by
  have hindex := index.isLt
  have hpc := (pc + 4).isLt
  have hregion : ((pc + 4).extractLsb' 28 4).toNat = (pc + 4).toNat / 2 ^ 28 := by
    rw [BitVec.extractLsb'_toNat, Nat.shiftRight_eq_div_pow]; omega
  have hupper : ((pc + 4).extractLsb' 28 4 ++ index).toNat = (pc + 4).toNat / 2 ^ 28 * 2 ^ 26 + index.toNat := by
    rw [BitVec.toNat_append, ← Nat.shiftLeft_add_eq_or_of_lt hindex, Nat.shiftLeft_eq, hregion]
  apply BitVec.eq_of_toNat_eq
  have htarget : (jumpTarget pc index).toNat = ((pc + 4).extractLsb' 28 4 ++ index).toNat <<< 2 ||| 0 :=
    BitVec.toNat_append _ 0#2
  rw [htarget, Nat.or_zero, Nat.shiftLeft_eq, hupper, BitVec.toNat_ofNat]
  omega

/-! ## The frame of a transfer -/

theorem transfers_branchTo (target : Word) (s : State) :
    Transfers (RegsKept s (s.branchTo target)) target s (s.branchTo target) :=
  ⟨fun _ => rfl, rfl, rfl, rfl, ⟨rfl, rfl⟩, ⟨rfl, rfl⟩, fun _ => rfl, ⟨⟨rfl, rfl, rfl, rfl⟩, rfl⟩⟩

theorem transfers_branchTo_setGpr (r : RegIdx) (v target : Word) (s : State) :
    Transfers (RegWritten r v s ((s.setGpr r v).branchTo target)) target s ((s.setGpr r v).branchTo target) := by
  obtain ⟨hreg, -⟩ := writesReg_advance_setGpr r v s
  exact ⟨hreg, by simp, rfl, rfl, by simp [HiLoKept], by simp [ReservationKept], by simp [MemoryKept],
    by simp [RestKept, HostKept]⟩

/-! ## The check of a transfer in a delay slot -/

theorem slotCheck_of_pass {s : State} (h : ¬(s.ds = true ∧ s.par.delaySlotBranch = .fault)) (k : Res State) :
    slotCheck s k = k := if_neg h

theorem slotCheck_of_stop {s : State} (h : s.ds = true ∧ s.par.delaySlotBranch = .fault) (k : Res State) :
    slotCheck s k = .fault (.delaySlotBranch s.pc) := if_pos h

/-- A branch that passes the check goes to its target if it is taken, else to the instruction after the slot. -/
theorem exists_branchIf_transfers {s : State} (h : ¬(s.ds = true ∧ s.par.delaySlotBranch = .fault)) (taken : Bool)
    (offset : BitVec 16) :
    ∃ t, branchIf taken offset s = .next t
      ∧ Transfers (RegsKept s t) (if taken = true then branchTarget s.pc offset else s.npc + 4) s t := by
  rw [branchIf, slotCheck_of_pass h]
  cases taken with
  | true => exact ⟨_, rfl, transfers_branchTo _ s⟩
  | false => exact ⟨_, rfl, transfers_branchTo (s.npc + 4) s⟩

section TransferMeanings

variable (rs rt rd : RegIdx) (offset : BitVec 16) (index : BitVec 26) (hint : BitVec 5) (s : State)

theorem exec_beq : exec (.beq rs rt offset) s = branchIf (s.gpr rs == s.gpr rt) offset s := rfl
theorem exec_bne : exec (.bne rs rt offset) s = branchIf (s.gpr rs != s.gpr rt) offset s := rfl
theorem exec_bgez : exec (.bgez rs offset) s = branchIf (geZero (s.gpr rs)) offset s := rfl
theorem exec_bgtz : exec (.bgtz rs offset) s = branchIf (gtZero (s.gpr rs)) offset s := rfl
theorem exec_blez : exec (.blez rs offset) s = branchIf (leZero (s.gpr rs)) offset s := rfl
theorem exec_bltz : exec (.bltz rs offset) s = branchIf (ltZero (s.gpr rs)) offset s := rfl
theorem exec_j : exec (.j index) s = slotCheck s (.next (s.branchTo (jumpTarget s.pc index))) := rfl
theorem exec_jal :
    exec (.jal index) s = slotCheck s (.next ((s.setGpr 31 (s.pc + 8)).branchTo (jumpTarget s.pc index))) := rfl
theorem exec_jr : exec (.jr rs hint) s = slotCheck s (.next (s.branchTo (s.gpr rs))) := rfl
theorem exec_jalr :
    exec (.jalr rs rd hint) s = slotCheck s (.next ((s.setGpr rd (s.pc + 8)).branchTo (s.gpr rs))) := rfl
theorem exec_bal :
    exec (.bal offset) s = slotCheck s (.next ((s.setGpr 31 (s.pc + 8)).branchTo (branchTarget s.pc offset))) := rfl

end TransferMeanings

/-- R13 step (4): a control transfer makes the check before anything else, and can end in no other fault. -/
theorem exists_exec_eq_slotCheck {i : Instr} (h : controlTransfer i = true) (s : State) :
    ∃ t, exec i s = slotCheck s (.next t) := by
  cases i with
  | beq | bgez | bgtz | blez | bltz | bne | j | jal | jalr | jr | bal => exact ⟨_, rfl⟩
  | _ => exact nomatch h

/-! ## No other instruction makes the check -/

section NoSlotFault

variable {s : State} {a : Word}

theorem memRead_ne_delaySlotBranch {kind : AccessKind} {addr : Word} {n : Nat} :
    memRead s kind addr n ≠ .fault (.delaySlotBranch a) := by
  rw [Ne, memRead_eq_fault]
  rintro (⟨-, heq⟩ | ⟨-, -, heq⟩)
  · exact nomatch heq
  · exact nomatch heq

theorem loadWith_ne_delaySlotBranch {g : Word → Word} {n : Nat} {base rt : RegIdx} {offset : BitVec 16} :
    loadWith g n base rt offset s ≠ .fault (.delaySlotBranch a) := by
  rw [Ne, loadWith_eq_fault]
  exact memRead_ne_delaySlotBranch

theorem storeLow_ne_delaySlotBranch {n : Nat} (hn : n ≤ 4) {base rt : RegIdx} {offset : BitVec 16} :
    storeLow n base rt offset s ≠ .fault (.delaySlotBranch a) := by
  rw [Ne, storeLow_eq_fault, memWrite_eq_fault hn]
  rintro (⟨-, heq⟩ | ⟨-, -, heq⟩)
  · exact nomatch heq
  · exact nomatch heq

theorem badBitfield_ne_delaySlotBranch {i : Instr} {rt : RegIdx} : badBitfield i rt s ≠ .fault (.delaySlotBranch a) := by
  cases h : s.par.bitfieldRange with
  | fault => rw [badBitfield_of_fault rt i h]; exact nofun
  | draw => rw [badBitfield_of_draw rt i h]; exact nofun

theorem serve_ne_delaySlotBranch {call : SyscallRequest} : serve call s ≠ .fault (.delaySlotBranch a) := by
  unfold serve
  split
  · split
    · exact nofun
    · exact nofun
  · exact nofun

theorem exec_syscall_ne_delaySlotBranch {code : BitVec 20} : exec (.syscall code) s ≠ .fault (.delaySlotBranch a) := by
  cases hservice : serviceOf (s.gpr s.par.syscallNumReg) with
  | none => rw [exec_syscall_of_unknown code hservice]; exact nofun
  | some v =>
    by_cases hv : v = .halt
    · subst hv; rw [exec_syscall_of_halt code hservice]; exact nofun
    · rw [exec_syscall_of_service code hservice hv]; exact serve_ne_delaySlotBranch

theorem exec_ext_ne_delaySlotBranch {rs rt : RegIdx} {m lsb : BitVec 5} :
    exec (.ext rs rt m lsb) s ≠ .fault (.delaySlotBranch a) := by
  rcases Nat.lt_or_ge 31 (m.toNat + lsb.toNat) with hout | hin
  · rw [exec_ext_of_outOfRange rs rt s hout]; exact badBitfield_ne_delaySlotBranch
  · rw [exec_ext_of_inRange rs rt s hin]; exact nofun

theorem exec_ins_ne_delaySlotBranch {rs rt : RegIdx} {m lsb : BitVec 5} :
    exec (.ins rs rt m lsb) s ≠ .fault (.delaySlotBranch a) := by
  rcases Nat.lt_or_ge m.toNat lsb.toNat with hout | hin
  · rw [exec_ins_of_outOfRange rs rt s hout]; exact badBitfield_ne_delaySlotBranch
  · rw [exec_ins_of_inRange rs rt s hin]; exact nofun

theorem ite_next_ne_fault {c : Prop} [Decidable c] {t u : State} {f : Fault} :
    (if c then (.next t : Res State) else .next u) ≠ .fault f := by
  split
  · exact nofun
  · exact nofun

theorem exec_teq_ne_delaySlotBranch {rs rt : RegIdx} {code : BitVec 10} :
    exec (.teq rs rt code) s ≠ .fault (.delaySlotBranch a) := by
  by_cases heq : s.gpr rs = s.gpr rt
  · rw [exec_teq_of_eq code heq]; exact nofun
  · rw [exec_teq_of_ne code heq]; exact nofun

/-- Whatever is no control transfer completes, is refused, or ends with another fault. -/
theorem exec_ne_delaySlotBranch {i : Instr} (h : controlTransfer i = false) : exec i s ≠ .fault (.delaySlotBranch a) := by
  cases i with
  | beq | bgez | bgtz | blez | bltz | bne | j | jal | jalr | jr | bal => exact nomatch h
  | lb | lbu | lh | lhu | lw => exact loadWith_ne_delaySlotBranch
  | ll => rw [Ne, exec_ll_eq_fault]; exact memRead_ne_delaySlotBranch
  | lwl => rw [Ne, exec_lwl_eq_fault]; exact fun ⟨_, heq⟩ => nomatch heq
  | lwr => rw [Ne, exec_lwr_eq_fault]; exact fun ⟨_, heq⟩ => nomatch heq
  | swl => rw [Ne, exec_swl_eq_fault]; exact fun ⟨_, heq⟩ => nomatch heq
  | swr => rw [Ne, exec_swr_eq_fault]; exact fun ⟨_, heq⟩ => nomatch heq
  | sb | sh | sw => exact storeLow_ne_delaySlotBranch (by omega)
  | sc =>
    rw [Ne, exec_sc_eq_fault]
    rintro (⟨-, heq⟩ | ⟨-, -, heq⟩)
    · exact nomatch heq
    · exact nomatch heq
  | syscall => exact exec_syscall_ne_delaySlotBranch
  | ext => exact exec_ext_ne_delaySlotBranch
  | ins => exact exec_ins_ne_delaySlotBranch
  | teq => exact exec_teq_ne_delaySlotBranch
  | div | divu | movn | movz => exact ite_next_ne_fault
  | _ => exact nofun

end NoSlotFault

end Sys2Proof.Machine

/-! CERTIFICATE. The statements on control transfers (44_branch.md, 45_jump.md). -/

namespace Sys2Proof.Proofs

open Sys2Proof.Machine Sys2Proof.Spec

/-- Settles O29: each branch is `branchIf` of its condition, and the target is the number stated. -/
theorem branchesGoToTheTarget : Obligations.BranchesGoToTheTarget := by
  rintro rs rt offset s target hpass rfl
  have hbranch := fun taken => exists_branchIf_transfers hpass taken offset
  simp only [branchTarget_eq_ofInt] at hbranch
  refine ⟨?_, ?_, ?_, ?_, ?_, ?_⟩
  · rw [exec_beq]; simpa only [beq_iff_eq] using hbranch (s.gpr rs == s.gpr rt)
  · rw [exec_bne]; simpa only [bne_iff_ne, ne_eq, ite_not] using hbranch (s.gpr rs != s.gpr rt)
  · rw [exec_bgez]; simpa only [geZero, decide_eq_true_eq] using hbranch (geZero (s.gpr rs))
  · rw [exec_bgtz]; simpa only [gtZero, decide_eq_true_eq] using hbranch (gtZero (s.gpr rs))
  · rw [exec_blez]; simpa only [leZero, decide_eq_true_eq] using hbranch (leZero (s.gpr rs))
  · rw [exec_bltz]; simpa only [ltZero, decide_eq_true_eq] using hbranch (ltZero (s.gpr rs))

/-- Settles O30: each jump is one `branchTo`, after the write of the link where there is one; its target is computed from the state
before that write. -/
theorem jumpsLinkAndGo : Obligations.JumpsLinkAndGo := by
  rintro rs rd hint index offset s region hpass rfl
  rw [← jumpTarget_eq_ofNat, ← branchTarget_eq_ofInt, exec_j, exec_jal, exec_jr, exec_jalr, exec_bal]
  simp only [slotCheck_of_pass hpass]
  exact ⟨⟨_, rfl, transfers_branchTo _ s⟩, ⟨_, rfl, transfers_branchTo_setGpr 31 _ _ s⟩, ⟨_, rfl, transfers_branchTo _ s⟩,
    ⟨_, rfl, transfers_branchTo_setGpr rd _ _ s⟩, ⟨_, rfl, transfers_branchTo_setGpr 31 _ _ s⟩⟩

/-- Settles O31: the eleven transfers are the check followed by a next state, and no other instruction has this fault. -/
theorem transferInDelaySlotFaults : Obligations.TransferInDelaySlotFaults := by
  refine ⟨fun i s htransfer hds hpolicy => ?_, fun i s a hfault => ?_⟩
  · obtain ⟨t, hexec⟩ := exists_exec_eq_slotCheck htransfer s
    rw [hexec, slotCheck_of_stop ⟨hds, hpolicy⟩]
  · cases htransfer : controlTransfer i with
    | false => exact absurd hfault (exec_ne_delaySlotBranch htransfer)
    | true =>
      obtain ⟨t, hexec⟩ := exists_exec_eq_slotCheck htransfer s
      rw [hexec] at hfault
      by_cases hstop : s.ds = true ∧ s.par.delaySlotBranch = .fault
      · rw [slotCheck_of_stop hstop] at hfault
        cases hfault
        exact ⟨rfl, hstop.1, hstop.2, rfl⟩
      · rw [slotCheck_of_pass hstop] at hfault
        exact nomatch hfault

end Sys2Proof.Proofs

/-! SUPPORT. What SYSCALL does (46_syscall.md): the table of services, the bytes a reply leaves, and the refusals. -/

namespace Sys2Proof.Machine

open Sys2Proof.Spec

/-! ## The table (R249) -/

theorem syscallTable_eq : services.map (fun v => (v, serviceNumber v)) = syscallTable := rfl

theorem serviceOf_of_mem {v : Service} {n : Word} (h : (v, n) ∈ syscallTable) : serviceOf n = some v := by
  rw [← syscallTable_eq] at h
  obtain ⟨w, -, heq⟩ := List.mem_map.mp h
  cases heq
  exact serviceOf_serviceNumber v

theorem serviceOf_of_not_mem {n : Word} (h : ∀ v, (v, n) ∉ syscallTable) : serviceOf n = none := by
  refine List.find?_eq_none.mpr fun v hv hnumber => h v ?_
  rw [← syscallTable_eq, ← beq_iff_eq.mp hnumber]
  exact List.mem_map_of_mem hv

/-! ## The bytes of a reply (R248) -/

theorem Memory.writeCells_append (m : Memory) (before later : List (Word × Byte)) :
    Memory.writeCells m (before ++ later) = Memory.writeCells (Memory.writeCells m before) later := by
  induction before generalizing m with
  | nil => rfl
  | cons c rest ih => exact ih (Memory.write m c.1.toNat c.2)

/-- The last write to a byte counts. -/
theorem Memory.read_writeCells_last (m : Memory) (before : List (Word × Byte)) {later : List (Word × Byte)} {a : Word}
    (b : Byte) (h : ∀ c ∈ later, c.1 ≠ a) :
    Memory.read (Memory.writeCells m (before ++ (a, b) :: later)) a.toNat = some b := by
  rw [Memory.writeCells_append, Memory.writeCells, Memory.read_writeCells_other]
  · exact Memory.read_write_same _ _ b
  · exact fun c hc heq => h c hc (BitVec.eq_of_toNat_eq heq)

/-! ## A service that the environment does not answer -/

/-- R248, log entries 15 and 17: without a legal answer to this very call the service is refused. -/
theorem serve_of_unanswered {call : SyscallRequest} {s : State}
    (h : ∀ ret writes after, s.replies.head? = some (.answer call ret writes after) → legalWrites s writes = false) :
    serve call s = .fault (.syscallRefused call.number) := by
  unfold serve
  split
  · rename_i request ret writes after hhead
    refine if_neg ?_
    rintro ⟨rfl, hlegal⟩
    exact absurd hlegal (by simp [h ret writes after hhead])
  · rfl

theorem legalWrites_iff {s : State} {writes : List (Word × Byte)} :
    legalWrites s writes = true ↔ ∀ c ∈ writes, Params.valid s.par .store c.1 = true := by
  simp [legalWrites]

end Sys2Proof.Machine

/-! CERTIFICATE. The statements on SYSCALL (46_syscall.md). -/

namespace Sys2Proof.Proofs

open Sys2Proof.Machine Sys2Proof.Spec

/-- Settles O32: the two lists are the same, entry by entry. -/
theorem systemCallNumbers : Obligations.SystemCallNumbers := syscallTable_eq

/-- Settles O33: the number 0 is HALT's, and `State.halt` changes the outcome alone. -/
theorem haltEndsTheRun : Obligations.HaltEndsTheRun := by
  intro code s hnumber
  have hhalt : serviceOf (s.gpr s.par.syscallNumReg) = some .halt := by rw [hnumber]; rfl
  exact ⟨_, exec_syscall_of_halt code hhalt, rfl, fun _ => rfl, ⟨rfl, rfl⟩, ⟨rfl, rfl⟩, fun _ => rfl, rfl, rfl, rfl, rfl, rfl,
    rfl, rfl⟩

/-- Settles O34: the service takes the answer at the head of the replies, which is legal, and does what it says. -/
theorem answeredServiceTakesEffect : Obligations.AnsweredServiceTakesEffect := by
  intro code s v ret writes after rest hlisted hv hreplies hvalid
  have hanswer : s.replies.head? = some (.answer s.request ret writes after) := by rw [hreplies]; rfl
  have hserve := serve_eq_next.mpr ⟨ret, writes, after, hanswer, legalWrites_iff.mpr hvalid, rfl⟩
  rw [← exec_syscall_of_service code (serviceOf_of_mem hlisted) hv] at hserve
  refine ⟨_, hserve, fun r hr => ?_, fun hnone => ?_, fun before later a b hwrites hlast => ?_, fun c hfar => ?_, by simp,
    by simp [hreplies], by simp, by simp, by simp [HiLoKept], by simp, by simp, by simp, by simp [Advanced]⟩
  · subst hr
    obtain ⟨hreg, -⟩ := writesReg_advance_setGpr s.par.syscallRetReg r (s.served writes after)
    exact hreg
  · subst hnone
    exact fun _ => rfl
  · simpa [hwrites] using Memory.read_writeCells_last s.mem before b hlast
  · simpa using Memory.read_writeCells_other writes s.mem c hfar

/-- Settles O35: a number outside the table finds no service; a listed one finds its own, and each of the four ways leaves it without
a legal answer. -/
theorem systemCallFaults : Obligations.SystemCallFaults := by
  refine ⟨fun code s hunlisted => exec_syscall_of_unknown code (serviceOf_of_not_mem hunlisted),
    fun code s v hlisted hv hway => ?_⟩
  rw [exec_syscall_of_service code (serviceOf_of_mem hlisted) hv]
  refine serve_of_unanswered fun ret writes after hhead => ?_
  rcases hway with hempty | hrefuse | ⟨request, ret', writes', after', hother, hbad⟩
  · simp [hempty] at hhead
  · simp [hrefuse] at hhead
  · rw [hother] at hhead
    cases hhead
    obtain hrequest | ⟨c, hc, hinvalid⟩ := hbad
    · exact absurd rfl hrequest
    · rw [← Bool.not_eq_true, legalWrites_iff]
      exact fun hall => absurd (hall c hc) (by simp [hinvalid])

end Sys2Proof.Proofs

/-! SUPPORT. The byte swap and the bit fields of 47_misc.md, bit by bit. -/

namespace Sys2Proof.Machine

open Sys2Proof.Spec

/-! ## The byte swap (R278) -/

theorem exec_wsbh (rt rd : RegIdx) (s : State) : exec (.wsbh rt rd) s = retire rd (swapBytesInHalves (s.gpr rt)) s := rfl

/-- The swapped word, as the four bytes of the old one. -/
theorem swapBytesInHalves_eq_ofLanes (v : Word) :
    swapBytesInHalves v = ofLanes [byteOf v 1, byteOf v 0, byteOf v 3, byteOf v 2] :=
  (ofLanes_arrange_four .little (byteOf v 1) (byteOf v 0) (byteOf v 3) (byteOf v 2)).symm

section Swap

variable (v : Word)

theorem byteOf_swapBytesInHalves_zero : byteOf (swapBytesInHalves v) 0 = byteOf v 1 := by
  rw [swapBytesInHalves_eq_ofLanes]; exact byteOf_ofLanes (by omega) (by simp)

theorem byteOf_swapBytesInHalves_one : byteOf (swapBytesInHalves v) 1 = byteOf v 0 := by
  rw [swapBytesInHalves_eq_ofLanes]; exact byteOf_ofLanes (by omega) (by simp)

theorem byteOf_swapBytesInHalves_two : byteOf (swapBytesInHalves v) 2 = byteOf v 3 := by
  rw [swapBytesInHalves_eq_ofLanes]; exact byteOf_ofLanes (by omega) (by simp)

theorem byteOf_swapBytesInHalves_three : byteOf (swapBytesInHalves v) 3 = byteOf v 2 := by
  rw [swapBytesInHalves_eq_ofLanes]; exact byteOf_ofLanes (by omega) (by simp)

theorem swapBytesInHalves_swapBytesInHalves : swapBytesInHalves (swapBytesInHalves v) = v := by
  apply word_ext
  intro k hk
  match k, hk with
  | 0, _ => rw [byteOf_swapBytesInHalves_zero, byteOf_swapBytesInHalves_one]
  | 1, _ => rw [byteOf_swapBytesInHalves_one, byteOf_swapBytesInHalves_zero]
  | 2, _ => rw [byteOf_swapBytesInHalves_two, byteOf_swapBytesInHalves_three]
  | 3, _ => rw [byteOf_swapBytesInHalves_three, byteOf_swapBytesInHalves_two]

end Swap

/-! ## The bit fields (R276, R277) -/

/-- The mask of the low `n` bits. -/
theorem getLsbD_lowMask (n : Nat) {i : Nat} (hi : i < 32) : (BitVec.ofNat 32 (2 ^ n - 1)).getLsbD i = decide (i < n) := by
  rw [BitVec.getLsbD_ofNat, Nat.testBit_two_pow_sub_one, decide_eq_true hi, Bool.true_and]

theorem getLsbD_extractField (v : Word) (msbd lsb : BitVec 5) {i : Nat} (hi : i < 32) :
    (extractField v msbd lsb).getLsbD i = (decide (i ≤ msbd.toNat) && v.getLsbD (lsb.toNat + i)) := by
  rw [extractField, BitVec.getLsbD_and, getLsbD_lowMask _ hi, BitVec.getLsbD_ushiftRight, Bool.and_comm]
  simp only [Nat.lt_succ_iff]

theorem getLsbD_insertField (old v : Word) {msb lsb : BitVec 5} (hle : lsb.toNat ≤ msb.toNat) {i : Nat} (hi : i < 32) :
    (insertField old v msb lsb).getLsbD i
      = if lsb.toNat ≤ i ∧ i ≤ msb.toNat then v.getLsbD (i - lsb.toNat) else old.getLsbD i := by
  have hmask : (BitVec.ofNat 32 (2 ^ (msb.toNat - lsb.toNat + 1) - 1) <<< lsb.toNat : Word).getLsbD i
      = decide (lsb.toNat ≤ i ∧ i ≤ msb.toNat) := by
    rw [BitVec.getLsbD_shiftLeft, getLsbD_lowMask _ (by omega)]
    by_cases hlow : i < lsb.toNat
    · have hout : ¬(lsb.toNat ≤ i ∧ i ≤ msb.toNat) := by omega
      simp only [hlow, hout, decide_true, decide_false, Bool.not_true, Bool.and_false, Bool.false_and]
    · have hwidth : i - lsb.toNat < msb.toNat - lsb.toNat + 1 ↔ lsb.toNat ≤ i ∧ i ≤ msb.toNat := by omega
      simp only [hi, hlow, hwidth, decide_true, decide_false, Bool.not_false, Bool.true_and]
  simp only [insertField, BitVec.getLsbD_or, BitVec.getLsbD_and, BitVec.getLsbD_not, hmask, BitVec.getLsbD_shiftLeft]
  by_cases hin : lsb.toNat ≤ i ∧ i ≤ msb.toNat
  · simp [hi, hin]
  · simp [hi, hin]

/-- Under `draw` the value is free and the draw is counted. -/
theorem exists_badBitfield_of_draw {s : State} (i : Instr) (rt : RegIdx) (h : s.par.bitfieldRange = .draw) :
    ∃ t, badBitfield i rt s = .next t ∧ RegWritten rt (Config.bitfieldDraw s.draws) s t ∧ t.draws = s.draws + 1
      ∧ HiLoKept s t ∧ ReservationKept s t ∧ MemoryKept s t ∧ HostKept s t ∧ Advanced s t := by
  obtain ⟨hreg, hhilo, hreservation, hmem, ⟨hhost, hdraws⟩, hadvanced⟩ :=
    writesReg_advance_setGpr rt (Config.bitfieldDraw s.draws) s.drawn
  exact ⟨_, badBitfield_of_draw rt i h, hreg, hdraws, hhilo, hreservation, hmem, hhost, hadvanced⟩

end Sys2Proof.Machine

/-! CERTIFICATE. The statements on the trap, the byte swap, the bit fields and the no-ops (47_misc.md). -/

namespace Sys2Proof.Proofs

open Sys2Proof.Machine Sys2Proof.Spec

/-- Settles O38: WSBH is `retire` of the swapped word, and the swap is its own inverse. -/
theorem wordSwapBytesInHalves : Obligations.WordSwapBytesInHalves := by
  intro rt rd rd' s
  simp only [exec_wsbh]
  obtain ⟨t, hexec, hwrites⟩ := exists_retire_writesReg rd (swapBytesInHalves (s.gpr rt)) s
  refine ⟨⟨t, _, hexec, hwrites, byteOf_swapBytesInHalves_zero _, byteOf_swapBytesInHalves_one _,
    byteOf_swapBytesInHalves_two _, byteOf_swapBytesInHalves_three _⟩, fun hrd hrd' => ?_⟩
  obtain ⟨hreg, -⟩ := hwrites
  obtain ⟨u, hexec', hreg', -⟩ := exists_retire_writesReg rd' (swapBytesInHalves (t.gpr rd)) t
  refine ⟨t, u, hexec, hexec', ?_⟩
  rw [gpr_same_of_regWritten hreg' hrd', gpr_same_of_regWritten hreg hrd, swapBytesInHalves_swapBytesInHalves]

/-- Settles O39, by the two cases of the test. -/
theorem trapIfEqual : Obligations.TrapIfEqual :=
  fun _ _ code s => ⟨exec_teq_of_eq code, fun hne => ⟨_, exec_teq_of_ne code hne, onlyAdvances_advance s⟩⟩

/-- Settles O40, bit by bit, with the mask of each field. -/
theorem bitFieldsInRange : Obligations.BitFieldsInRange := by
  refine ⟨fun rs rt msbd lsb s hin => ?_, fun rs rt msb lsb s hin => ?_⟩
  · rw [exec_ext_of_inRange rs rt s hin]
    exact exists_retire_writesReg_of (fun i hi => getLsbD_extractField _ msbd lsb hi) rt s
  · rw [exec_ins_of_inRange rs rt s hin]
    exact exists_retire_writesReg_of (fun i hi => getLsbD_insertField _ _ hin hi) rt s

/-- Settles O41: outside their ranges both instructions are `badBitfield`, which follows `BITFIELD_RANGE`. -/
theorem bitFieldsOutOfRange : Obligations.BitFieldsOutOfRange := by
  rintro rs rt m lsb s i func (⟨rfl, rfl, hout⟩ | ⟨rfl, rfl, hout⟩)
  · rw [exec_ext_of_outOfRange rs rt s hout]
    exact ⟨badBitfield_of_fault rt _, exists_badBitfield_of_draw _ rt⟩
  · rw [exec_ins_of_outOfRange rs rt s hout]
    exact ⟨badBitfield_of_fault rt _, exists_badBitfield_of_draw _ rt⟩

/-- Settles O42: the meaning of each is `advance`. -/
theorem noOpsOnlyAdvance : Obligations.NoOpsOnlyAdvance :=
  fun _ _ _ _ s => ⟨⟨_, rfl, onlyAdvances_advance s⟩, ⟨_, rfl, onlyAdvances_advance s⟩, ⟨_, rfl, onlyAdvances_advance s⟩⟩

end Sys2Proof.Proofs

/-! SUPPORT. Instruction fetch (20_memory.md R58): a load of a word at `pc` of the kind `fetch`. -/

namespace Sys2Proof.Machine

open Sys2Proof.Spec

theorem step_of_running {s : State} (h : s.outcome = .running) :
    step s = andThen (fetchInstr s) fun i => exec i s := by
  simp only [step, h]

theorem step_of_fetch_fault {s : State} {f : Fault} (h : s.outcome = .running) (hfetch : fetchWord s = .fault f) :
    step s = .fault f := by
  rw [step_of_running h, fetchInstr, hfetch, andThen_fault, andThen_fault]

theorem step_of_fetchWord {s : State} {w : Word} (h : s.outcome = .running) (hfetch : fetchWord s = .next w) :
    step s = andThen (decodeFetched w) fun i => exec i s := by
  rw [step_of_running h, fetchInstr, hfetch, andThen_next]

theorem decodeFetched_of_instr {w : Word} {i : Instr} (h : decodeWord w = .instr i) : decodeFetched w = .next i := by
  simp only [decodeFetched, h]

end Sys2Proof.Machine

/-! CERTIFICATE. The statements on fetch and decode (00_scope.md). -/

namespace Sys2Proof.Proofs

open Sys2Proof.Machine Sys2Proof.Spec

/-- Settles O48: the fetch is the read of a word, which decodes to the instruction. -/
theorem stepRunsTheDecodedInstruction : Obligations.StepRunsTheDecodedInstruction := by
  intro s b0 b1 b2 b3 i hrun haligned hvalid h0 h1 h2 h3 hdecode
  rw [step_of_fetchWord hrun (memRead_four haligned hvalid h0 h1 h2 h3), decodeFetched_of_instr hdecode, andThen_next]

/-- Settles O49: the two faults of the read of a word, and then the rejection of a word that no row accepts. -/
theorem fetchAndDecodeFaults : Obligations.FetchAndDecodeFaults := by
  refine ⟨fun s hrun hmisaligned => ?_, fun s hrun haligned hinvalid => ?_,
    fun s b0 b1 b2 b3 hrun haligned hvalid h0 h1 h2 h3 hnorow => ?_⟩
  · exact step_of_fetch_fault hrun (memRead_of_misaligned s .fetch hmisaligned)
  · exact step_of_fetch_fault hrun (memRead_of_invalid haligned hinvalid)
  · have hreject := decodeWord_of_no_row fun r hr haccepts => hnorow r hr (Row.accepts_iff.mp haccepts)
    rw [step_of_fetchWord hrun (memRead_four haligned hvalid h0 h1 h2 h3), decodeFetched_of_rejected hreject, andThen_fault]

end Sys2Proof.Proofs
